-- ==== Sys2Proof/Word.lean ====
section
/-! DEFINITION. The words of the block (rule R8): a byte is 8 bits, a word 16 bits, an event word 32 bits (rule R70). -/

namespace Sys2Proof

/-- A byte: one character on the wire, one place of a frame buffer (R8). -/
abbrev Byte := BitVec 8

/-- A word: one holding register, one 16-bit field of a frame (R8, R21). -/
abbrev Word := BitVec 16

/-- An event word of the block's input stream (R70). -/
abbrev EventWord := BitVec 32

/-- The 12-bit register index field of an event word, bits 27:16 (R70). -/
abbrev LoopIndex := BitVec 12

end Sys2Proof
end

