-- ==== Sys2Proof/Config.lean ====
section
/-! DEFINITION. The implementation parameters of rule R6, the two fixed constants, and the free values.

OPEN parameters are fields of `Params`; a State holds its parameters, so a statement about every state quantifies over
them. DESIGN CHOICE (log 1). The value `Params.thisHardware` is the instance State.reset uses. -/

namespace Sys2Proof

/-- CAP, the capacity in bytes of the receive and of the transmit buffer (R6). -/
def cap : Nat := 255

/-- MINLEN, the expected length of a frame before its function code is inspected (R6, R73). -/
def minLen : Nat := 6

/-- INSPECT_AT (R6, D5): the receive fill level at which address and function code are inspected. -/
inductive InspectAt where
  /-- 7, the normative value. -/
  | seventh
  /-- 6, the variant. -/
  | sixth
  deriving DecidableEq, Repr

/-- INSPECT_AT as a number of bytes. -/
def InspectAt.bytes : InspectAt → Nat
  | .seventh => 7
  | .sixth => 6

/-- CRC_CHECK (R6, D7): the span of the incoming-frame CRC check. -/
inductive CrcCheck where
  /-- The normative check of R104. -/
  | standard
  /-- The variant of R105. -/
  | sourceLiteral
  deriving DecidableEq, Repr

/-- FC16_LEN_BASE (R6, D8): the constant term of the FC16 expected length. -/
inductive Fc16Base where
  /-- 9, the normative value. -/
  | nine
  /-- 8, the variant. -/
  | eight
  deriving DecidableEq, Repr

/-- FC16_LEN_BASE as a number. -/
def Fc16Base.value : Fc16Base → Nat
  | .nine => 9
  | .eight => 8

/-- The parameters of R6 that are not the same for every implementation. N is the number of words of REG_INIT.
TICK_PERIOD is left out: no rule depends on it (log 13). -/
structure Params where
  /-- REG_INIT, the power-on contents of the register map (OPEN, D18). Its length is N. -/
  regInit : List Word
  /-- DEVADDR_INIT, the power-on device address. -/
  devaddrInit : Byte
  /-- T_FRAME, the frame-silence timeout in TICK events (OPEN, D26). -/
  tFrame : BitVec 16
  /-- T_TURN, the turnaround delay in TICK events (OPEN, D26). -/
  tTurn : BitVec 16
  /-- INSPECT_AT. -/
  inspectAt : InspectAt
  /-- CRC_CHECK. -/
  crcCheck : CrcCheck
  /-- FC16_LEN_BASE. -/
  fc16Base : Fc16Base
  deriving DecidableEq, Repr

/-- N, the number of holding registers (R6, R21). -/
def Params.n (p : Params) : Nat := p.regInit.length

/-- The parameter set of State.reset: R6's values, and for the OPEN ones the instance of 95_test_vectors.md for the
timeouts and zero registers. DESIGN CHOICE (log 1, log 2); unsafe: no statement may rest on these values. -/
def Params.thisHardware : Params where
  regInit := [0, 0, 0]
  devaddrInit := 0
  tFrame := 4
  tTurn := 2
  inspectAt := .seventh
  crcCheck := .standard
  fc16Base := .nine

/-- The byte that POWER_ON finds at an offset of a frame buffer, for the draw of that number: the spec leaves it
unspecified, "any value" (R230, R233). A FREE VALUE without a body (log 4). -/
opaque Config.powerOnByte : Nat → Nat → Byte

end Sys2Proof
end

