-- ==== Sys2Proof/Machine/Operands.lean ====
section
/-! DEFINITION. Operand forms: the bytes of a word and the assembly of 16-bit frame fields (R8, R54, R77 to R79). -/

namespace Sys2Proof

/-- hi(w), bits 15:8 (R8). -/
def hi (w : Word) : Byte := w.extractLsb' 8 8

/-- lo(w), bits 7:0 (R8). -/
def lo (w : Word) : Byte := w.extractLsb' 0 8

/-- a ∥ b, with a in the high part (R8). -/
def join (a b : Byte) : Word := a ++ b

/-- frame[k], the byte at offset k of a frame held as a list (R72). Callers check the length first, so the value past
the end (00) is never used. -/
def byteAt (frame : List Byte) (k : Nat) : Byte := frame.getD k 0

/-- The 16-bit field at offsets k, k+1, high byte first (R54, R77). -/
def wordAt (frame : List Byte) (k : Nat) : Word := join (byteAt frame k) (byteAt frame (k + 1))

/-- The payload words of an FC16 request: n words from offset k on (R79). -/
def wordsAt (frame : List Byte) (k : Nat) : Nat → List Word
  | 0 => []
  | n + 1 => wordAt frame k :: wordsAt frame (k + 2) n

/-- Words laid out in a frame, high byte first (R54). -/
def wordBytes : List Word → List Byte
  | [] => []
  | w :: ws => hi w :: lo w :: wordBytes ws

end Sys2Proof
end

