-- ==== Sys2Proof/Machine/Crc.lean ====
section
/-! DEFINITION. The CRC16/Modbus generator and the CRC check (40_crc.md, R100 to R106). The per-bit step is the one R100
writes out; the spec marks it as supplied from general knowledge (93_implementation_defined.md G1, log 15). -/

namespace Sys2Proof

/-- One shift: test bit 0, shift right, XOR 0xA001 if the tested bit was 1 (R100). -/
def crcShift (c : Word) : Word := if c.getLsbD 0 then (c >>> 1) ^^^ 0xA001#16 else c >>> 1

/-- n shifts. -/
def crcShifts : Nat → Word → Word
  | 0, c => c
  | n + 1, c => crcShifts n (crcShift c)

/-- One byte enters bits 7:0 and is shifted out in 8 iterations (R100). -/
def crcByte (c : Word) (b : Byte) : Word := crcShifts 8 (c ^^^ b.setWidth 16)

/-- crc16 over a sequence of bytes, in increasing offset order, from 0xFFFF (R100, R101). -/
def crc16 (bytes : List Byte) : Word := bytes.foldl crcByte 0xFFFF#16

/-- A frame's bytes followed by their CRC, low byte first (R55, R103). -/
def withCrc (bytes : List Byte) : List Byte := bytes ++ [lo (crc16 bytes), hi (crc16 bytes)]

/-- How many bytes of a frame of length L the incoming CRC check covers: L-2 (R104), or L-1 in the variant (R105). -/
def CrcCheck.span (check : CrcCheck) (len : Nat) : Nat :=
  match check with
  | .standard => len - 2
  | .sourceLiteral => len - 1

/-- crc_ok(L) of a frame of length L, at least 2: the two trailing bytes are the CRC, low byte first (R104, R105). -/
def crcOk (check : CrcCheck) (frame : List Byte) : Bool :=
  let c := crc16 (frame.take (check.span frame.length))
  byteAt frame (frame.length - 2) == lo c && byteAt frame (frame.length - 1) == hi c

end Sys2Proof
end

