-- ==== Sys2Proof/Machine/Memory.lean ====
section
/-! DEFINITION. A frame buffer as plain data: the bytes of RXBUF or of TXBUF by frame offset 0..254 (R25, R28, R50), held
as a list of cells in one canonical form. -/

namespace Sys2Proof.Machine

/-- The contents of a frame buffer: (offset, byte), offsets strictly rising, no byte equal to what an unlisted offset
reads as. -/
abbrev Memory := List Host.Cell

/-- What an offset that nothing has written reads as. The spec leaves it unspecified and never observed (R38).
DESIGN CHOICE (log 3): 00; unsafe. -/
def Memory.unwritten : Byte := 0

/-- The byte at an offset. -/
def Memory.read : Memory → Nat → Byte
  | [], _ => Memory.unwritten
  | (k, b) :: rest, a => if a = k then b else Memory.read rest a

/-- A cell put in front, unless its byte is the one an unlisted offset reads as. -/
def Memory.cons (a : Nat) (b : Byte) (rest : Memory) : Memory :=
  if b = Memory.unwritten then rest else (a, b) :: rest

/-- Writing one byte, in canonical form. -/
def Memory.write : Memory → Nat → Byte → Memory
  | [], a, b => Memory.cons a b []
  | (k, c) :: rest, a, b =>
    if a < k then Memory.cons a b ((k, c) :: rest)
    else if a = k then Memory.cons a b rest
    else (k, c) :: Memory.write rest a b

/-- Writing consecutive bytes from an offset on. -/
def Memory.writeList (m : Memory) (a : Nat) : List Byte → Memory
  | [] => m
  | b :: bs => Memory.writeList (m.write a b) (a + 1) bs

/-- n consecutive bytes from offset `a` on. -/
def Memory.bytes (m : Memory) (a : Nat) : Nat → List Byte
  | 0 => []
  | n + 1 => m.read a :: m.bytes (a + 1) n

/-- A buffer that holds these bytes from offset 0 on. -/
def Memory.ofBytes (bytes : List Byte) : Memory := Memory.writeList [] 0 bytes

/-- The canonical form from an offset on: offsets rising, below CAP, no unwritten byte listed. -/
def Memory.canonicalFrom : Nat → Memory → Bool
  | _, [] => true
  | a, (k, b) :: rest => decide (a ≤ k) && decide (k < cap) && (b != Memory.unwritten) && Memory.canonicalFrom (k + 1) rest

/-- The canonical form of a frame buffer. -/
def Memory.wf (m : Memory) : Bool := Memory.canonicalFrom 0 m

end Sys2Proof.Machine
end

