-- ==== Sys2Proof/Syntax.lean ====
section
/-! DEFINITION. The instructions: one constructor for each row of spec/opcode_table.json (R10, R70, R74 to R76, R93). -/

namespace Sys2Proof

/-- The block's input events, its request frames and its two internal steps. -/
inductive Instr where
  /-- RX_BYTE(b): the transport delivers a received byte (R110). -/
  | rxByte (b : Byte)
  /-- TICK: the periodic timer tick (R175). -/
  | tick
  /-- TX_READY: the transport can take the next byte (R120). -/
  | txReady
  /-- TX_COMPLETE: the last byte has left the line (R121). -/
  | txComplete
  /-- RESET: a frame reset from any state (R232). -/
  | reset
  /-- SET_ADDR(a): the address-selection collaborator writes the device address (R125). -/
  | setAddr (a : Byte)
  /-- LOOP_READ(i): the control loop reads a register (R65). -/
  | loopRead (i : LoopIndex)
  /-- LOOP_WRITE(i, v): the control loop writes a register (R66). -/
  | loopWrite (i : LoopIndex) (v : Word)
  /-- FC03, read holding registers (R74, R143): frame address byte, start, count. -/
  | fc03 (addr : Byte) (start count : Word)
  /-- FC06, write single register (R75, R147): frame address byte, register address, value. -/
  | fc06 (addr : Byte) (address value : Word)
  /-- FC16, write multiple registers (R76, R150): frame address byte, start, count, byte count (not interpreted, R90), payload words. -/
  | fc16 (addr : Byte) (start count : Word) (byteCount : Byte) (words : List Word)
  /-- POWER_ON, the first step of every run (R230). -/
  | powerOn
  /-- PROCESS, the dispatcher's step (R140). -/
  | process
  deriving DecidableEq, Repr

end Sys2Proof
end

