-- ==== Sys2Proof/Machine/State.lean ====
section
/-! DEFINITION. The state of the block (10_state.md R20), the reasons a step can stop, and the state right after POWER_ON. -/

namespace Sys2Proof.Machine

/-- SlaveState (R23), with the two codes of the 3-bit STATE that no rule writes (R24). -/
inductive SlaveState where
  /-- Code 0. -/
  | idle
  /-- Code 1. -/
  | receiving
  /-- Code 2. -/
  | processing
  /-- Code 3. -/
  | ignoring
  /-- Code 4. -/
  | startingTransmission
  /-- Code 5. -/
  | transmitting
  /-- Code 6, never written; a state that holds it is refused (R24). -/
  | reserved6
  /-- Code 7, never written; a state that holds it is refused (R24). -/
  | reserved7
  deriving DecidableEq, Repr

/-- What the block gives out (R11): the model keeps the sequence in `State.outputs` (log 7). -/
inductive Output where
  /-- emit TXBYTE(b): a byte handed to the serial transport (R9). -/
  | txByte (b : Byte)
  /-- The value a LOOP_READ returned (R65). -/
  | loopValue (v : Word)
  deriving DecidableEq, Repr

/-- One turn of the input stream: which agent moves next (R207; DESIGN CHOICE, log 5). -/
inductive Turn where
  /-- An input event, as its event word (R70). -/
  | event (w : EventWord)
  /-- A control-loop access, as its event word, that takes effect between two word accesses of a PROCESS step that is
  under way (R58); with no PROCESS under way it is an event like any other. -/
  | between (w : EventWord)
  /-- The foreground loop gives the dispatcher a turn: PROCESS where it is enabled (R140, R160); where a PROCESS step is
  under way, its next word access (R58). -/
  | dispatcher
  /-- Power comes on: POWER_ON, the start of a run (R230, log 12). -/
  | powerOn
  deriving DecidableEq, Repr

/-- The block never faults: "no step faults" (R200). No constructor, so no step can stop this way (safe). -/
inductive Fault where
  deriving DecidableEq, Repr

/-- The forms the model gives no meaning (R9 `refuse`). -/
inductive Refusal where
  /-- Raised by exec's arm of an instruction that has no meaning yet. Safe. -/
  | notModelled (mnemonic : String)
  /-- Raised by step on an event word that spells no event (R71). Safe. -/
  | badEvent
  /-- Raised by LOOP_READ and LOOP_WRITE with an index of N or more (R67). Safe. -/
  | loopIndex
  /-- Raised by every instruction and by step where STATE is 6 or 7 (R24). Safe. -/
  | badState
  /-- Raised by every instruction and by step where the parameters are outside their ranges (R7), or the register map
  does not have N words. Safe. -/
  | badParameters
  /-- Raised by PROCESS on a frame whose function code is none of 3, 6, 16 (R142). Safe. -/
  | unreachableFc
  /-- Raised by PROCESS, FC03, FC06 and FC16 outside STATE = Processing, where no rule enables them (R140; log 10). Safe. -/
  | notProcessing
  /-- Raised by PROCESS on a frame that is shorter than 8 bytes or not of the length its function demands: the
  precondition of R140 does not hold (log 10). Safe. -/
  | frameLength
  deriving DecidableEq, Repr

/-- The state of the block and of the model's input and output. -/
structure State where
  /-- REG[0..N-1] (R21). -/
  regs : List Word
  /-- DEVADDR (R22). -/
  devaddr : Byte
  /-- STATE (R23). -/
  state : SlaveState
  /-- RXBUF[0..254] (R25). -/
  rxbuf : Memory
  /-- RXCUR (R26). -/
  rxcur : BitVec 8
  /-- EXPLEN (R27). -/
  explen : BitVec 18
  /-- TXBUF[0..254] (R28). -/
  txbuf : Memory
  /-- TXCUR (R29). -/
  txcur : BitVec 8
  /-- TXLEN (R30). -/
  txlen : BitVec 8
  /-- TMR_EN (R31). -/
  tmrEn : Bool
  /-- TMR_COUNT (R31). -/
  tmrCount : BitVec 16
  /-- TMR_TARGET (R31). -/
  tmrTarget : BitVec 16
  /-- LINE_TX (R33): false is receive, true is transmit. -/
  lineTx : Bool
  /-- The implementation's parameters (R6); no step changes them. The model's own (log 1). -/
  params : Params
  /-- While a PROCESS step is under way between two of its word accesses (R58): how many words it has moved. The
  model's own (log 6). -/
  wordsDone : Option Nat
  /-- The turns still to be taken, next first. The model's own (log 5). -/
  input : List Turn
  /-- What the block has given out, oldest first (R11). The model's own (log 7). -/
  outputs : List Output
  /-- How many free values have been drawn. The model's own (log 4). -/
  draws : Nat
  deriving DecidableEq, Repr

/-- N of this state's parameters. -/
def State.n (s : State) : Nat := s.params.n

/-- The state right after POWER_ON with these parameters (R230, R233), with no input and no output yet, and buffers that
list nothing (log 3). -/
def State.afterPowerOn (p : Params) : State where
  regs := p.regInit
  devaddr := p.devaddrInit
  state := .idle
  rxbuf := []
  rxcur := 0
  explen := 6
  txbuf := []
  txcur := 0
  txlen := 0
  tmrEn := false
  tmrCount := 0
  tmrTarget := 0
  lineTx := false
  params := p
  wordsDone := none
  input := []
  outputs := []
  draws := 0

/-- The machine right after reset: POWER_ON with the parameters of this hardware (R6, R233; log 1, log 2, log 3). -/
def State.reset : State := State.afterPowerOn Params.thisHardware

/-- What an instruction or a step answers. -/
abbrev Result := Host.Outcome State Fault Refusal

end Sys2Proof.Machine
end

