-- ==== Sys2Proof/Machine/Flags.lean ====
section
/-! DEFINITION. The block has no condition codes (R35). Its flag bits are TMR_EN and LINE_TX, written by the timer hooks
and the line hooks, and the outputs STATE_OUT and QUIET. -/

namespace Sys2Proof.Machine

/-- The 3-bit code of a slave state, in the enum's order (R23). -/
def SlaveState.code : SlaveState → BitVec 3
  | .idle => 0
  | .receiving => 1
  | .processing => 2
  | .ignoring => 3
  | .startingTransmission => 4
  | .transmitting => 5
  | .reserved6 => 6
  | .reserved7 => 7

/-- STATE_OUT, the status output that exports STATE (R32). -/
def State.stateOut (s : State) : BitVec 3 := s.state.code

/-- QUIET: ready to accept an address change (R32). -/
def State.quiet (s : State) : Bool := s.state == .idle && s.rxcur == 0

/-- enableReceive() (R170). -/
def State.enableReceive (s : State) : State := { s with lineTx := false }

/-- enableTransmit() (R170). -/
def State.enableTransmit (s : State) : State := { s with lineTx := true }

/-- timer_arm(t) (R172). -/
def State.timerArm (t : BitVec 16) (s : State) : State := { s with tmrCount := 0, tmrTarget := t, tmrEn := true }

/-- timer_restart() (R173). -/
def State.timerRestart (s : State) : State := { s with tmrCount := 0 }

/-- timer_disarm() (R174). -/
def State.timerDisarm (s : State) : State := { s with tmrEn := false }

/-- TMR_COUNT <- TMR_COUNT + 1 (R175). The field is 16 bits wide and the rule's sum fits it wherever the armed count is
below the target, which holds between the steps of every run (R31). -/
def State.timerCount (s : State) : State := { s with tmrCount := s.tmrCount + 1 }

/-- Whether a TICK that counts now makes the timer expire: TMR_COUNT + 1 ≥ TMR_TARGET, over the integers (R8, R175). -/
def State.tickExpires (s : State) : Bool := decide (s.tmrTarget.toNat ≤ s.tmrCount.toNat + 1)

end Sys2Proof.Machine
end

