-- ==== Sys2Proof/Machine/Ops.lean ====
section
/-! DEFINITION. The named operations that the meanings share: the guard of R7 and R24, the register map, the receive side,
the response build, the exception response (R154), the silent discard (R203, R231) and the hand-off (R156). -/

namespace Sys2Proof.Machine

/-- The ranges of R6 that the types do not already hold: 1 ≤ N ≤ 125, 1 ≤ T_FRAME, 1 ≤ T_TURN (R7). -/
def paramsValid (p : Params) : Bool :=
  decide (1 ≤ p.n) && decide (p.n ≤ 125) && p.tFrame != 0 && p.tTurn != 0

/-- STATE codes 6 and 7 (R24). -/
def SlaveState.isReserved : SlaveState → Bool
  | .reserved6 => true
  | .reserved7 => true
  | .idle => false
  | .receiving => false
  | .processing => false
  | .ignoring => false
  | .startingTransmission => false
  | .transmitting => false

/-- Why the model gives a state no step at all: parameters out of range or a register map that is not N words (R7, R21),
or STATE 6 or 7 (R24). -/
def State.illegal (s : State) : Option Refusal :=
  if paramsValid s.params && s.regs.length == s.n then
    if s.state.isReserved then some .badState else none
  else some .badParameters

/-- The guard that every instruction and every step passes first (R7, R24; log 11). -/
def checked (s : State) (k : Result) : Result :=
  match s.illegal with
  | some r => .refused r
  | none => k

/-! ### The register map -/

/-- REG[i] (R21). Callers have checked i < N. -/
def State.reg (s : State) (i : Nat) : Word := s.regs.getD i 0

/-- REG[i] <- v (R21). Callers have checked i < N. -/
def State.setReg (i : Nat) (v : Word) (s : State) : State := { s with regs := s.regs.set i v }

/-! ### Output -/

/-- emit (R9): what is given out is kept in order. -/
def State.emit (o : Output) (s : State) : State := { s with outputs := s.outputs ++ [o] }

/-! ### Frame reset: the end of every transaction, and the silent discard -/

/-- frame_reset() (R231): Idle, cursors and lengths at their initial values, timer disarmed and cleared, receive line
enabled; REG, DEVADDR and the buffers unchanged. It is also the return from every answered transaction: there is nothing
to restore (R211). A PROCESS step that was under way is gone (log 6). -/
def State.frameReset (s : State) : State :=
  { s with
    state := .idle
    rxcur := 0
    explen := 6
    txcur := 0
    txlen := 0
    tmrEn := false
    tmrCount := 0
    tmrTarget := 0
    lineTx := false
    wordsDone := none }

/-! ### Receive side -/

/-- store_rx(b) (R111): a byte past CAP is dropped. -/
def State.storeRx (b : Byte) (s : State) : State :=
  if s.rxcur.toNat < cap then { s with rxbuf := s.rxbuf.write s.rxcur.toNat b, rxcur := s.rxcur + 1 } else s

/-- The received frame, RXBUF[0..RXCUR-1] (R25, R53). -/
def State.frame (s : State) : List Byte := s.rxbuf.bytes 0 s.rxcur.toNat

/-- match(a) (R114): DEVADDR ≠ 0 and a = DEVADDR. -/
def State.addrMatch (s : State) (a : Byte) : Bool := s.devaddr != 0 && a == s.devaddr

/-! ### Response build -/

/-- append_crc(m) (R103): the CRC of TXBUF[0..m-1], low byte first, and TXLEN. -/
def State.appendCrc (m : Nat) (s : State) : State :=
  { s with
    txbuf := s.txbuf.writeList m [lo (crc16 (s.txbuf.bytes 0 m)), hi (crc16 (s.txbuf.bytes 0 m))]
    txlen := BitVec.ofNat 8 (m + 2) }

/-- Bytes written to TXBUF from an offset on. -/
def State.putTx (at_ : Nat) (bytes : List Byte) (s : State) : State :=
  { s with txbuf := s.txbuf.writeList at_ bytes }

/-- handoff() (R156): the response waits for the turnaround. PROCESS is over. -/
def State.handoff (s : State) : State :=
  State.timerArm s.params.tTurn { s with txcur := 0, state := .startingTransmission, wordsDone := none }

/-- A response whose payload is these bytes: written, finished by its CRC (R155), handed off (R156). -/
def State.respond (payload : List Byte) (s : State) : State :=
  ((s.putTx 0 payload).appendCrc payload.length).handoff

/-- exc(f, code) (R154): taking an exception is building the exception response and handing it off (R210). -/
def State.exception (function code : Byte) (s : State) : State :=
  s.respond [s.devaddr, function ||| 0x80, code]

/-- Whether `start` and `count` name registers that exist: start + count - 1 ≤ N - 1 over the integers, which is
start + count ≤ N (R8, R143, R150). -/
def State.inRange (s : State) (start count : Word) : Bool := decide (start.toNat + count.toNat ≤ s.n)

/-- The dispatcher's loop over count words (R58, R144, R151): one word access a step, in ascending order. After the last
word, or at once if there is none, the response is finished in the same step. Between two accesses the step ends, with
the number of words moved kept in the state, so that the control loop's accesses may come between (log 6). -/
def moveWord (count : Nat) (access : Nat → State → State) (finish : State → State) (s : State) : State :=
  let j := s.wordsDone.getD 0
  if j < count then
    if j + 1 < count then { access j s with wordsDone := some (j + 1) } else finish (access j s)
  else finish s

end Sys2Proof.Machine
end

