-- ==== Sys2Proof/Machine/Control.lean ====
section
/-! DEFINITION. RESET, SET_ADDR and POWER_ON (R125, R230, R232). -/

namespace Sys2Proof.Machine

/-- RESET (R232): frame_reset in every state. -/
def execReset (s : State) : Result := checked s (.next s.frameReset)

/-- SET_ADDR(a) (R125): accepted in every state, at once. -/
def execSetAddr (a : Byte) (s : State) : Result := checked s (.next { s with devaddr := a })

/-- The contents a frame buffer comes up with: any value (R233), a free value for each draw (log 4). -/
def powerOnBuffer (draw : Nat) : Memory := Memory.ofBytes ((List.range cap).map (Config.powerOnByte draw))

/-- POWER_ON (R230). The state it is taken in stands for nothing but the parameters: every element of the block is written
(R233), the buffers with free values (log 4). The input stream and what was given out are the environment's. -/
def execPowerOn (s : State) : Result :=
  checked s (.next (State.frameReset
    { s with
      regs := s.params.regInit
      devaddr := s.params.devaddrInit
      rxbuf := powerOnBuffer s.draws
      txbuf := powerOnBuffer (s.draws + 1)
      draws := s.draws + 2 }))

end Sys2Proof.Machine
end

