-- ==== Sys2Proof/Machine/LoopPort.lean ====
section
/-! DEFINITION. The control-loop register port: LOOP_READ and LOOP_WRITE (R65 to R67), in every STATE. -/

namespace Sys2Proof.Machine

/-- LOOP_READ(i) (R65): returns REG[i], no state change; an index of N or more is refused (R67). -/
def execLoopRead (i : LoopIndex) (s : State) : Result :=
  checked s <| if i.toNat < s.n then .next (s.emit (.loopValue (s.reg i.toNat))) else .refused .loopIndex

/-- LOOP_WRITE(i, v) (R66); an index of N or more is refused (R67). -/
def execLoopWrite (i : LoopIndex) (v : Word) (s : State) : Result :=
  checked s <| if i.toNat < s.n then .next (s.setReg i.toNat v) else .refused .loopIndex

end Sys2Proof.Machine
end

