-- ==== Sys2Proof/WellFormed.lean ====
section
/-! DEFINITION. Which terms of `Instr` stand for something the block can be sent: the checks that the types do not make. -/

namespace Sys2Proof

/-- An FC16 request carries as many payload words as its count field says (R76, R79), and its frame fits the receive
buffer (R6; a longer one never completes, R116). Every other instruction is well formed with any operands. -/
def Instr.wellFormed : Instr → Bool
  | .fc16 _ _ count _ words => words.length == count.toNat && decide (9 + 2 * words.length ≤ cap)
  | .rxByte _ => true
  | .tick => true
  | .txReady => true
  | .txComplete => true
  | .reset => true
  | .setAddr _ => true
  | .loopRead _ => true
  | .loopWrite _ _ => true
  | .fc03 _ _ _ => true
  | .fc06 _ _ _ => true
  | .powerOn => true
  | .process => true

end Sys2Proof
end

