-- ==== Sys2Proof/Decode.lean ====
section
/-! DEFINITION. Decoding of event words (R70, R71) and of request frames (R72 to R79, R85, R89, R90), total and rejecting
by name; then the encoder, written from the same tables. -/

namespace Sys2Proof

/-- Why the decoder refuses its input. -/
inductive Reject where
  /-- An event word of kind 8..15 (R71). -/
  | unknownKind
  /-- An event word with a non-zero bit in a field its kind does not use (R71). -/
  | unusedField
  /-- A frame shorter than the 8 bytes of the shortest request (R104: L ≥ 8). -/
  | frameTooShort
  /-- A frame whose two trailing bytes are not its CRC (R104, R105). -/
  | badCrc
  /-- A frame whose function code is none of 3, 6, 16 (R85). -/
  | unknownFunction
  /-- A frame whose length is not the one its function code and count fix (R89). -/
  | frameLength
  deriving DecidableEq, Repr

/-- Bits 31:28 of an event word (R70). -/
def eventKind (w : EventWord) : BitVec 4 := w.extractLsb' 28 4

/-- Bits 27:16 of an event word (R70). -/
def eventIndex (w : EventWord) : LoopIndex := w.extractLsb' 16 12

/-- Bits 15:0 of an event word (R70). -/
def eventData (w : EventWord) : Word := w.extractLsb' 0 16

/-- The events without operands: index and data must be zero (R70, R71). -/
def plainEvent (w : EventWord) (i : Instr) : Except Reject Instr :=
  if eventIndex w = 0 ∧ eventData w = 0 then .ok i else .error .unusedField

/-- The events that carry one byte in data[7:0]: index and data[15:8] must be zero (R70, R71). -/
def byteEvent (w : EventWord) (i : Byte → Instr) : Except Reject Instr :=
  if eventIndex w = 0 ∧ hi (eventData w) = 0 then .ok (i (lo (eventData w))) else .error .unusedField

/-- The event an event word spells (R70), or why it spells none (R71). POWER_ON, PROCESS and the request frames have no
event word (R93). -/
def decodeEvent (w : EventWord) : Except Reject Instr :=
  if eventKind w = 0 then byteEvent w .rxByte
  else if eventKind w = 1 then plainEvent w .tick
  else if eventKind w = 2 then plainEvent w .txReady
  else if eventKind w = 3 then plainEvent w .txComplete
  else if eventKind w = 4 then plainEvent w .reset
  else if eventKind w = 5 then byteEvent w .setAddr
  else if eventKind w = 6 then
    if eventData w = 0 then .ok (.loopRead (eventIndex w)) else .error .unusedField
  else if eventKind w = 7 then .ok (.loopWrite (eventIndex w) (eventData w))
  else .error .unknownKind

/-- The expected length of a request from its function code and its count field (R89, R115, R116); none for a function
code the block does not know (R85). Computed over the integers: it may exceed CAP (R116). -/
def expectedLength (base : Fc16Base) (function : Byte) (count : Word) : Option Nat :=
  if function = 0x03 ∨ function = 0x06 then some 8
  else if function = 0x10 then some (base.value + 2 * count.toNat)
  else none

/-- The request a frame holds, its fields read as R74 to R79 lay them out. For a function code other than 3, 6 and 16 the
caller has refused. -/
def requestOf (frame : List Byte) : Instr :=
  if byteAt frame 1 = 0x03 then .fc03 (byteAt frame 0) (wordAt frame 2) (wordAt frame 4)
  else if byteAt frame 1 = 0x06 then .fc06 (byteAt frame 0) (wordAt frame 2) (wordAt frame 4)
  else .fc16 (byteAt frame 0) (wordAt frame 2) (wordAt frame 4) (byteAt frame 6)
    (wordsAt frame 7 (wordAt frame 4).toNat)

/-- The request a complete frame spells: the CRC check first (R141, R157), then the function code (R85, R142), then the
length the function demands (R89, the precondition of R140). The address byte is compared by the inspection (R114), not
here; the FC16 byte count is not checked (R90). -/
def decodeFrame (check : CrcCheck) (base : Fc16Base) (frame : List Byte) : Except Reject Instr :=
  if frame.length < 8 then .error .frameTooShort
  else if crcOk check frame = false then .error .badCrc
  else
    match expectedLength base (byteAt frame 1) (wordAt frame 4) with
    | none => .error .unknownFunction
    | some len => if frame.length = len then .ok (requestOf frame) else .error .frameLength

/-- What the block decodes: an event word at its ports, or a request frame in its byte stream. -/
inductive Code where
  /-- An event word (R70). -/
  | word (w : EventWord)
  /-- A request frame, its CRC included (R72). -/
  | frame (bytes : List Byte)
  deriving DecidableEq, Repr

/-- The decoder with the normative parameter values (`Standard`, `FC16_LEN_BASE` = 9). -/
def decode : Code → Except Reject Instr
  | .word w => decodeEvent w
  | .frame bytes => decodeFrame .standard .nine bytes

/-- An event word from its three fields (R70). -/
def eventWord (kind : BitVec 4) (index : LoopIndex) (data : Word) : EventWord := kind ++ index ++ data

/-- The event word of an input event (R70); none for a request frame or an internal step. -/
def encodeEvent : Instr → Option EventWord
  | .rxByte b => some (eventWord 0 0 (join 0 b))
  | .tick => some (eventWord 1 0 0)
  | .txReady => some (eventWord 2 0 0)
  | .txComplete => some (eventWord 3 0 0)
  | .reset => some (eventWord 4 0 0)
  | .setAddr a => some (eventWord 5 0 (join 0 a))
  | .loopRead i => some (eventWord 6 i 0)
  | .loopWrite i v => some (eventWord 7 i v)
  | .fc03 _ _ _ => none
  | .fc06 _ _ _ => none
  | .fc16 _ _ _ _ _ => none
  | .powerOn => none
  | .process => none

/-- The bytes of a request before its CRC (R74 to R76); none for an event or an internal step. -/
def requestBytes : Instr → Option (List Byte)
  | .fc03 addr start count => some ([addr, 0x03] ++ wordBytes [start, count])
  | .fc06 addr address value => some ([addr, 0x06] ++ wordBytes [address, value])
  | .fc16 addr start count byteCount words =>
    some ([addr, 0x10] ++ wordBytes [start, count] ++ [byteCount] ++ wordBytes words)
  | .rxByte _ => none
  | .tick => none
  | .txReady => none
  | .txComplete => none
  | .reset => none
  | .setAddr _ => none
  | .loopRead _ => none
  | .loopWrite _ _ => none
  | .powerOn => none
  | .process => none

/-- The request frame of a request: its bytes and a fresh CRC, low byte first (R55, R74 to R76). -/
def encodeFrame (i : Instr) : Option (List Byte) := (requestBytes i).map withCrc

/-- The encoding of an instruction; none for POWER_ON and PROCESS, which have none (R93). -/
def encode (i : Instr) : Option Code :=
  match encodeEvent i with
  | some w => some (.word w)
  | none => (encodeFrame i).map .frame

/-- The request frame for a table word of a request row: the table numbers only frame[1] (its "matched_field"), so w is
the function code, every operand is zero, and the frame is completed by its CRC (log 9). -/
def tableFrame (w : Nat) : List Byte :=
  withCrc ([0, BitVec.ofNat 8 w] ++ wordBytes [0, 0] ++ (if w = 0x10 then [0] else []))

/-- The instruction the decoder reads from a row of spec/opcode_table.json: an event row has 32 bits, a request row the
8 bits of its function code. -/
def decodeTableWord (nbits w : Nat) : Option Instr :=
  if nbits = 32 then (decode (.word (BitVec.ofNat 32 w))).toOption
  else if nbits = 8 then (decode (.frame (tableFrame w))).toOption
  else none

end Sys2Proof
end

