-- ==== Sys2Proof/Machine/Receive.lean ====
section
/-! DEFINITION. The receive side of the framer: RX_BYTE (R110 to R119). -/

namespace Sys2Proof.Machine

/-- The length the frame in RXBUF must have, from its function code and count field (R113, R115, R116). -/
def State.requestLength (s : State) : Option Nat :=
  expectedLength s.params.fc16Base (s.rxbuf.read 1) (join (s.rxbuf.read 4) (s.rxbuf.read 5))

/-- inspect() (R113): the address first (R114), then the function code and the expected length (R115, R116). -/
def State.inspect (s : State) : State :=
  if s.addrMatch (s.rxbuf.read 0) then
    match s.requestLength with
    | some len => { s with state := .receiving, explen := BitVec.ofNat 18 len }
    | none => { s with state := .ignoring, explen := BitVec.ofNat 18 cap }
  else { s with state := .ignoring, explen := BitVec.ofNat 18 cap }

/-- RX_BYTE in Idle (R112). -/
def rxIdle (b : Byte) (s : State) : State :=
  let t := s.storeRx b
  let u := if s.rxcur = 0 then State.timerArm s.params.tFrame t else t.timerRestart
  if u.rxcur.toNat = s.params.inspectAt.bytes then u.inspect else u

/-- RX_BYTE in Receiving (R117). -/
def rxReceiving (b : Byte) (s : State) : State :=
  let t := (s.storeRx b).timerRestart
  if t.rxcur.toNat = t.explen.toNat then { t.timerDisarm with state := .processing } else t

/-- RX_BYTE in Ignoring (R118). -/
def rxIgnoring (b : Byte) (s : State) : State := (s.storeRx b).timerRestart

/-- RX_BYTE(b) (R110): what the rule for the current STATE says; no effect while a frame is processed or answered (R119). -/
def execRxByte (b : Byte) (s : State) : Result :=
  checked s <|
    match s.state with
    | .idle => .next (rxIdle b s)
    | .receiving => .next (rxReceiving b s)
    | .ignoring => .next (rxIgnoring b s)
    | .processing => .next s
    | .startingTransmission => .next s
    | .transmitting => .next s
    | .reserved6 => .refused .badState
    | .reserved7 => .refused .badState

end Sys2Proof.Machine
end

