-- ==== Sys2Proof/Machine/Requests.lean ====
section
/-! DEFINITION. The function dispatcher: FC03, FC06, FC16 and PROCESS (42_dispatcher.md, R140 to R160). -/

namespace Sys2Proof.Machine

/-- A request is executed by PROCESS, which is enabled exactly in Processing (R140; log 10). -/
def inProcessing (s : State) (k : State) : Result :=
  checked s <| if s.state = .processing then .next k else .refused .notProcessing

/-- The bytes of an FC03 response before its words (R144). -/
def fc03Header (count : Word) (s : State) : State :=
  s.putTx 0 [s.devaddr, 0x03, BitVec.ofNat 8 (2 * count.toNat)]

/-- Word j of an FC03 response: one word access, high byte first (R144). -/
def fc03Word (start : Word) (j : Nat) (s : State) : State :=
  s.putTx (3 + 2 * j) [hi (s.reg (start.toNat + j)), lo (s.reg (start.toNat + j))]

/-- The end of an FC03 response (R144, R156). -/
def fc03Finish (count : Word) (s : State) : State := (s.appendCrc (3 + 2 * count.toNat)).handoff

/-- FC03 (R143, R144), one word access a step (R58): the range check, the header before the first word, a word, and after
the last word the CRC and the hand-off. -/
def fc03Step (start count : Word) (s : State) : State :=
  if s.inRange start count then
    moveWord count.toNat (fc03Word start) (fc03Finish count) (if s.wordsDone = none then fc03Header count s else s)
  else s.exception 0x03 2

/-- FC03, read holding registers (R143 to R146). -/
def execFc03 (_addr : Byte) (start count : Word) (s : State) : Result := inProcessing s (fc03Step start count s)

/-- FC06, write single register (R147 to R149): the range check, one word access, the echo. -/
def fc06Step (address value : Word) (s : State) : State :=
  if address.toNat < s.n then
    (s.setReg address.toNat value).respond [s.devaddr, 0x06, hi address, lo address, hi value, lo value]
  else s.exception 0x06 2

/-- FC06, write single register (R147 to R149). -/
def execFc06 (_addr : Byte) (address value : Word) (s : State) : Result := inProcessing s (fc06Step address value s)

/-- Payload word j of an FC16 request to its register: one word access (R79, R151). -/
def fc16Word (start : Word) (words : List Word) (j : Nat) (s : State) : State :=
  s.setReg (start.toNat + j) (words.getD j 0)

/-- The echo of an FC16 request: start and count (R151, R152). -/
def fc16Finish (start count : Word) (s : State) : State :=
  s.respond [s.devaddr, 0x10, hi start, lo start, hi count, lo count]

/-- FC16 (R150, R151), one word access a step (R58). -/
def fc16Step (start count : Word) (words : List Word) (s : State) : State :=
  if s.inRange start count then moveWord count.toNat (fc16Word start words) (fc16Finish start count) s
  else s.exception 0x10 2

/-- FC16, write multiple registers (R150 to R153). The byte count is not read (R90). -/
def execFc16 (_addr : Byte) (start count : Word) (_byteCount : Byte) (words : List Word) (s : State) : Result :=
  inProcessing s (fc16Step start count words s)

/-- The dispatch on the decoded request (R140, R142). Nothing but a request comes out of a frame. -/
def runRequest (i : Instr) (s : State) : Result :=
  match i with
  | .fc03 addr start count => execFc03 addr start count s
  | .fc06 addr address value => execFc06 addr address value s
  | .fc16 addr start count byteCount words => execFc16 addr start count byteCount words s
  | .rxByte _ => .refused .unreachableFc
  | .tick => .refused .unreachableFc
  | .txReady => .refused .unreachableFc
  | .txComplete => .refused .unreachableFc
  | .reset => .refused .unreachableFc
  | .setAddr _ => .refused .unreachableFc
  | .loopRead _ => .refused .unreachableFc
  | .loopWrite _ _ => .refused .unreachableFc
  | .powerOn => .refused .unreachableFc
  | .process => .refused .unreachableFc

/-- PROCESS (R140 to R142, R157): the CRC check, a silent discard on failure; then the request. Where a PROCESS step is
already under way it goes on with its next word: the frame has not changed since (R63), so it decodes to the same request. -/
def execProcess (s : State) : Result :=
  checked s <|
    if s.state = .processing then
      match decodeFrame s.params.crcCheck s.params.fc16Base s.frame with
      | .ok i => runRequest i s
      | .error .badCrc => .next s.frameReset
      | .error .unknownFunction => .refused .unreachableFc
      | .error .frameTooShort => .refused .frameLength
      | .error .frameLength => .refused .frameLength
      | .error .unknownKind => .refused .badEvent
      | .error .unusedField => .refused .badEvent
    else .refused .notProcessing

end Sys2Proof.Machine
end

