-- ==== Sys2Proof/Machine/Transmit.lean ====
section
/-! DEFINITION. The transmit side of the framer: TX_READY, TX_COMPLETE (R120, R121), and begin_tx (R178). -/

namespace Sys2Proof.Machine

/-- begin_tx() (R178): the direction is switched before the first byte is emitted, in the same step. -/
def State.beginTx (s : State) : State :=
  let t := s.timerDisarm.enableTransmit.emit (.txByte (s.txbuf.read 0))
  { t with txcur := 1, state := .transmitting }

/-- TX_READY (R120). -/
def execTxReady (s : State) : Result :=
  checked s <|
    if s.state = .transmitting ∧ s.txcur.toNat < s.txlen.toNat then
      .next { s.emit (.txByte (s.txbuf.read s.txcur.toNat)) with txcur := s.txcur + 1 }
    else .next s

/-- TX_COMPLETE (R121): only after the last byte, and never on a byte count alone. -/
def execTxComplete (s : State) : Result :=
  checked s <|
    if s.state = .transmitting ∧ s.txcur = s.txlen then .next s.frameReset else .next s

end Sys2Proof.Machine
end

