-- ==== Sys2Proof/Machine/Watchdog.lean ====
section
/-! DEFINITION. The frame-timeout watchdog: TICK and the expiry of the shared timer (R175 to R180). -/

namespace Sys2Proof.Machine

/-- expire() (R175): what the expiry does is decided by STATE alone (R176 to R180). -/
def State.expire (s : State) : Result :=
  match s.state with
  | .idle => .next s.frameReset
  | .receiving => .next s.frameReset
  | .ignoring => .next s.frameReset
  | .startingTransmission => .next s.beginTx
  | .processing => .next s.timerDisarm
  | .transmitting => .next s.timerDisarm
  | .reserved6 => .refused .badState
  | .reserved7 => .refused .badState

/-- TICK (R175): an armed timer counts and may expire; a tick while disarmed is lost. -/
def execTick (s : State) : Result :=
  checked s <|
    if s.tmrEn then
      if s.tickExpires then s.timerCount.expire else .next s.timerCount
    else .next s

end Sys2Proof.Machine
end

