-- ==== Sys2Proof/Machine/Dispatch.lean ====
section
/-! DEFINITION. The meaning of every instruction, arm by arm. -/

namespace Sys2Proof.Machine

def exec (i : Instr) (s : State) : Host.Outcome State Fault Refusal :=
  match i with
  | .rxByte b => Sys2Proof.Machine.execRxByte b s
  | .tick => Sys2Proof.Machine.execTick s
  | .txReady => Sys2Proof.Machine.execTxReady s
  | .txComplete => Sys2Proof.Machine.execTxComplete s
  | .reset => Sys2Proof.Machine.execReset s
  | .setAddr a => Sys2Proof.Machine.execSetAddr a s
  | .loopRead k => Sys2Proof.Machine.execLoopRead k s
  | .loopWrite k v => Sys2Proof.Machine.execLoopWrite k v s
  | .fc03 addr start count => Sys2Proof.Machine.execFc03 addr start count s
  | .fc06 addr address value => Sys2Proof.Machine.execFc06 addr address value s
  | .fc16 addr start count byteCount words => Sys2Proof.Machine.execFc16 addr start count byteCount words s
  | .powerOn => Sys2Proof.Machine.execPowerOn s
  | .process => Sys2Proof.Machine.execProcess s

end Sys2Proof.Machine
end

