-- ==== Sys2Proof/Machine/Fetch.lean ====
section
/-! DEFINITION. Which instruction the next step runs (R10, R58, R160, R207): the input stream, the dispatcher, and the
placing of a frame in the receive buffer. -/

namespace Sys2Proof

/-- The two events of the control-loop port, the only ones that may come between two word accesses of PROCESS (R58). -/
def Instr.isLoopPort : Instr → Bool
  | .loopRead _ => true
  | .loopWrite _ _ => true
  | .rxByte _ => false
  | .tick => false
  | .txReady => false
  | .txComplete => false
  | .reset => false
  | .setAddr _ => false
  | .fc03 _ _ _ => false
  | .fc06 _ _ _ => false
  | .fc16 _ _ _ _ _ => false
  | .powerOn => false
  | .process => false

end Sys2Proof

namespace Sys2Proof.Machine

/-- What the next step does. -/
inductive Selection where
  /-- Run this instruction, in this state (the turn it came from is taken). -/
  | run (i : Instr) (s : State)
  /-- Nothing to run: the block waits. -/
  | wait (s : State)
  /-- The next word of the stream spells no event (R71). -/
  | badEvent
  deriving DecidableEq, Repr

/-- The dispatcher's turn: PROCESS exactly where it is enabled (R140); elsewhere the foreground loop finds nothing to do. -/
def dispatcherTurn (s : State) : Selection := if s.state = .processing then .run .process s else .wait s

/-- The instruction an event word runs (R70, R71). -/
def eventTurn (w : EventWord) (s : State) : Selection :=
  match decodeEvent w with
  | .ok i => .run i s
  | .error _ => .badEvent

/-- A PROCESS step is under way, between two of its word accesses (R58). -/
def State.midProcess (s : State) : Bool := s.wordsDone.isSome && s.state == .processing

/-- What comes next while a PROCESS step is under way. A turn of the dispatcher is taken by its next word access, and an
access of the control loop that is to come between two words by that access, so that any number of them can be placed in
every gap between two words (R5, R58). Anything else waits, with the dispatcher going on, until the PROCESS step has ended,
since all other effects of PROCESS are atomic. -/
def selectMid (s : State) : Selection :=
  match s.input with
  | [] => .run .process s
  | .event _ :: _ => .run .process s
  | .dispatcher :: rest => .run .process { s with input := rest }
  | .powerOn :: _ => .run .process s
  | .between w :: rest =>
    match decodeEvent w with
    | .ok i => if i.isLoopPort then .run i { s with input := rest } else .run .process s
    | .error _ => .badEvent

/-- The next turn (log 5, log 6). An event runs the instruction its word spells; a turn of the dispatcher runs PROCESS
where it is enabled. With no turn left the dispatcher has it, so a PROCESS that stays enabled is taken (R160). -/
def select (s : State) : Selection :=
  if s.midProcess then selectMid s
  else
    match s.input with
    | [] => dispatcherTurn s
    | .dispatcher :: rest => dispatcherTurn { s with input := rest }
    | .powerOn :: rest => .run .powerOn { s with input := rest }
    | .event w :: rest => eventTurn w { s with input := rest }
    | .between w :: rest => eventTurn w { s with input := rest }

/-- A complete request frame in the receive buffer, as the framer leaves it when PROCESS becomes enabled (R37 row
Processing, R117). -/
def State.withFrame (bytes : List Byte) (s : State) : State :=
  { s with
    state := .processing
    rxbuf := s.rxbuf.writeList 0 bytes
    rxcur := BitVec.ofNat 8 bytes.length
    explen := BitVec.ofNat 18 bytes.length
    txcur := 0
    txlen := 0
    tmrEn := false
    lineTx := false
    wordsDone := none
    input := .dispatcher :: s.input }

/-- An event word that the next step takes. -/
def State.withEvent (w : EventWord) (s : State) : State :=
  { s with wordsDone := none, input := .event w :: s.input }

end Sys2Proof.Machine
end

