-- ==== Sys2Proof/Machine/Step.lean ====
section
/-! DEFINITION. One step of the machine, and where it fetches its next instruction. -/

namespace Sys2Proof.Machine

/-- One step: the selected instruction, or the wait for one (R10). -/
def step (s : State) : Host.Outcome State Fault Refusal :=
  match select s with
  | .run i t => exec i t
  | .wait t => checked s (.next t)
  | .badEvent => checked s (.refused .badEvent)

/-- The instruction of a row of spec/opcode_table.json placed where the next step takes it: an event word (32 bits) first
in the input stream, a request (the 8 bits of its function code) as a complete frame that PROCESS takes (log 9). -/
def State.withFetchWord (s : State) (nbits w : Nat) : State :=
  if nbits = 32 then s.withEvent (BitVec.ofNat 32 w)
  else if nbits = 8 then s.withFrame (tableFrame w)
  else s

end Sys2Proof.Machine
end

