-- ==== Sys2Proof/Machine/Transport.lean ====
section
/-! DEFINITION. The serial transport as an agent (R217): its moves, and the block and the transport as one system, in which
the transport has no other move. The block by itself checks none of this (`step` accepts every event, R10, R120, R121). -/

namespace Sys2Proof.Machine

/-- What the transport knows: R217 in its rows receive, transmit a byte, and end of response (log 18). -/
structure Transport where
  /-- Bytes received on the wire and not yet delivered, in wire order. -/
  received : List Byte
  /-- Bytes sent on the wire, oldest first. -/
  sent : List Byte
  /-- How many of them it has still to answer with a TX_READY, one each. -/
  readyOwed : Nat
  /-- It has sent a byte since its last TX_COMPLETE. -/
  completeOwed : Bool
  deriving DecidableEq, Repr

/-- A transport that has these bytes to deliver, and has sent nothing. -/
def Transport.quiet (received : List Byte) : Transport where
  received := received
  sent := []
  readyOwed := 0
  completeOwed := false

/-- The transport after it delivers this event; none where it has no such move (R217). RX_BYTE: the next received byte, and
each once. TX_READY: one for each byte sent. TX_COMPLETE: one once a response has gone out, and not before every byte of it
is answered (R245 gives the order; log 18). The events of the other agents are no moves of the transport; at which times a
TICK comes is out of the model (log 13). -/
def Transport.deliver (i : Instr) (t : Transport) : Option Transport :=
  match i with
  | .rxByte b =>
    match t.received with
    | [] => none
    | c :: rest => if b = c then some { t with received := rest } else none
  | .txReady => if t.readyOwed = 0 then none else some { t with readyOwed := t.readyOwed - 1 }
  | .txComplete => if t.completeOwed ∧ t.readyOwed = 0 then some { t with completeOwed := false } else none
  | .tick => some t
  | .reset => some t
  | .setAddr _ => some t
  | .loopRead _ => some t
  | .loopWrite _ _ => some t
  | .fc03 _ _ _ => some t
  | .fc06 _ _ _ => some t
  | .fc16 _ _ _ _ _ => some t
  | .powerOn => some t
  | .process => some t

/-- The transport sends the bytes that the block hands it (R9, R217). -/
def Transport.send (bytes : List Byte) (t : Transport) : Transport :=
  { t with
    sent := t.sent ++ bytes
    readyOwed := t.readyOwed + bytes.length
    completeOwed := t.completeOwed || !bytes.isEmpty }

/-- The byte of an emitted TXBYTE. -/
def Output.sentByte : Output → Option Byte
  | .txByte b => some b
  | .loopValue _ => none

/-- The bytes a step emitted: what the outputs gained. -/
def emittedBy (s t : State) : List Byte := (t.outputs.drop s.outputs.length).filterMap Output.sentByte

/-- The block and the transport. -/
structure System where
  /-- The block. -/
  block : State
  /-- The transport. -/
  transport : Transport
  deriving DecidableEq, Repr

/-- The transport's part in what the block does next: the event it delivers, if it is one. -/
def Transport.moveFor (x : Selection) (t : Transport) : Option Transport :=
  match x with
  | .run i _ => t.deliver i
  | .wait _ => some t
  | .badEvent => some t

/-- One step of the system: a step of the block, where the transport has the move that it takes, and the bytes that the step
emits go to the transport. None where the transport has no such move (R217), or where the block refuses. -/
def System.step (x : System) : Option System :=
  match x.transport.moveFor (select x.block) with
  | none => none
  | some t =>
    match Machine.step x.block with
    | .next s => some { block := s, transport := t.send (emittedBy x.block s) }
    | .refused _ => none
    | .fault _ => none

end Sys2Proof.Machine
end

