-- ==== Sys2Proof/Safety.lean ====
section
/-! DEFINITION. What counts as a safe run, in the terms the statements use: the legal states of R7 and R24, the invariant
table of R37, the collaborator's duty of R238, and what of a state can be observed (R38). -/

namespace Sys2Proof.Machine

/-- A state the model gives steps: parameters in range (R7), N registers (R21), STATE one of the six codes (R24). -/
def State.Legal (s : State) : Prop := s.illegal = none

/-- TXLEN after a response is built: 8, or 5 + 2k with k ≤ N, which takes in the exception's 5 (R30, R155). -/
def State.responseLength (s : State) : Prop :=
  s.txlen.toNat = 8 ∨ (s.txlen.toNat % 2 = 1 ∧ 5 ≤ s.txlen.toNat ∧ s.txlen.toNat ≤ 5 + 2 * s.n)

/-- The received frame is complete and of the length its function code and count demand (R37, row Processing). -/
def State.frameComplete (s : State) : Prop :=
  s.requestLength = some s.explen.toNat ∧ s.rxcur.toNat = s.explen.toNat

/-- The table of R37, a row for each STATE (columns RXCUR, EXPLEN, TXCUR and TXLEN, timer). -/
def State.rowHolds (s : State) : Prop :=
  match s.state with
  | .idle =>
    s.rxcur.toNat < s.params.inspectAt.bytes ∧ s.explen = 6 ∧ s.txcur = 0 ∧ s.txlen = 0 ∧
      (s.rxcur = 0 → s.tmrEn = false ∧ s.tmrCount = 0 ∧ s.tmrTarget = 0) ∧
      (s.rxcur ≠ 0 → s.tmrEn = true ∧ s.tmrTarget = s.params.tFrame)
  | .receiving =>
    s.params.inspectAt.bytes ≤ s.rxcur.toNat ∧ s.rxcur.toNat < s.explen.toNat ∧
      s.requestLength = some s.explen.toNat ∧ s.txcur = 0 ∧ s.txlen = 0 ∧ s.tmrEn = true ∧ s.tmrTarget = s.params.tFrame
  | .ignoring =>
    s.params.inspectAt.bytes ≤ s.rxcur.toNat ∧ s.explen = 255 ∧ s.txcur = 0 ∧ s.txlen = 0 ∧ s.tmrEn = true ∧
      s.tmrTarget = s.params.tFrame
  | .processing => s.frameComplete ∧ s.txcur = 0 ∧ s.txlen = 0 ∧ s.tmrEn = false
  | .startingTransmission =>
    s.frameComplete ∧ s.txcur = 0 ∧ s.responseLength ∧ s.tmrEn = true ∧ s.tmrTarget = s.params.tTurn
  | .transmitting =>
    s.frameComplete ∧ 1 ≤ s.txcur.toNat ∧ s.txcur.toNat ≤ s.txlen.toNat ∧ s.responseLength ∧ s.tmrEn = false
  | .reserved6 => False
  | .reserved7 => False

/-- start and count of the requests that move words (FC03, FC16). -/
def Instr.wordRange : Instr → Option (Word × Word)
  | .fc03 _ start count => some (start, count)
  | .fc16 _ start count _ _ => some (start, count)
  | .fc06 _ _ _ => none
  | .rxByte _ => none
  | .tick => none
  | .txReady => none
  | .txComplete => none
  | .reset => none
  | .setAddr _ => none
  | .loopRead _ => none
  | .loopWrite _ _ => none
  | .powerOn => none
  | .process => none

/-- The request in the receive buffer, if a complete and valid one is there. -/
def State.pendingRequest (s : State) : Option Instr :=
  (decodeFrame s.params.crcCheck s.params.fc16Base s.frame).toOption

/-- While a PROCESS step is under way (R58) STATE is Processing, and it has moved some but not all words of a request
whose range check passed. -/
def State.midHolds (s : State) : Prop :=
  match s.wordsDone with
  | none => True
  | some j =>
    s.state = .processing ∧ 0 < j ∧
      ∃ start count, s.pendingRequest.bind Instr.wordRange = some (start, count) ∧ s.inRange start count = true ∧
        j < count.toNat

/-- The invariant of R31 and R37, with the canonical form of the buffers. -/
structure State.Inv (s : State) : Prop where
  /-- The parameters, the register map and STATE are legal (R7, R21, R24). -/
  legal : s.Legal
  /-- RXBUF is in canonical form. -/
  rxWf : s.rxbuf.wf = true
  /-- TXBUF is in canonical form. -/
  txWf : s.txbuf.wf = true
  /-- The row of R37 for STATE. -/
  row : s.rowHolds
  /-- LINE_TX = 1 exactly when STATE = Transmitting (R37). -/
  line : s.lineTx = true ↔ s.state = .transmitting
  /-- While armed, TMR_COUNT < TMR_TARGET (R31). -/
  armed : s.tmrEn = true → s.tmrCount.toNat < s.tmrTarget.toNat
  /-- Where a PROCESS step under way stands (R58). -/
  mid : s.midHolds

/-- The event word that the next turn carries. -/
def Turn.word : Turn → Option EventWord
  | .event w => some w
  | .between w => some w
  | .dispatcher => none
  | .powerOn => none

/-- The collaborator's duty (R218, R238): SET_ADDR comes only while QUIET = 1. It is about the next turn. -/
def State.addressDuty (s : State) : Prop :=
  ∀ t rest w a, s.input = t :: rest → t.word = some w → decodeEvent w = .ok (.setAddr a) → s.quiet = true

/-- The transport's duty (R217): the event that the block takes next, if it is one of the transport's, is a move the
transport has. It is about the next turn. -/
def State.transportDuty (s : State) (t : Transport) : Prop := (t.moveFor (select s)).isSome = true

/-- What a transport that keeps its duty knows of a response going out: it owes a TX_COMPLETE, and it has answered every
byte only if the whole response has been handed over. -/
def System.inStep (x : System) : Prop :=
  x.block.state = .transmitting →
    x.transport.completeOwed = true ∧ (x.transport.readyOwed = 0 → x.block.txcur = x.block.txlen)

/-- From the inspection to the end of the transaction the frame's address byte is DEVADDR, which is not 0, and from the
response build on so is the response's first byte (R86, R148, R159). -/
def State.addressHeld (s : State) : Prop :=
  ((s.state = .receiving ∨ s.state = .processing ∨ s.state = .startingTransmission ∨ s.state = .transmitting) →
      s.devaddr ≠ 0 ∧ s.rxbuf.read 0 = s.devaddr) ∧
    ((s.state = .startingTransmission ∨ s.state = .transmitting) → s.txbuf.read 0 = s.devaddr) ∧
    (s.wordsDone.isSome = true → s.rxbuf.read 1 = 0x03 → s.txbuf.read 0 = s.devaddr)

/-- How much of TXBUF has been written for the response: TXLEN bytes once it is finished, and while an FC03 response is
being built the header and the words moved so far (R144). -/
def State.txWritten (s : State) : Nat :=
  match s.wordsDone with
  | none => s.txlen.toNat
  | some j => if s.rxbuf.read 1 = 0x03 then 3 + 2 * j else 0

/-- Two states that differ at most in stale buffer bytes: RXBUF at or past RXCUR, TXBUF past what is written (R25, R38). -/
structure State.SameLive (s t : State) : Prop where
  /-- RXBUF agrees below RXCUR. -/
  rx : ∀ a, a < s.rxcur.toNat → s.rxbuf.read a = t.rxbuf.read a
  /-- TXBUF agrees where it is written. -/
  tx : ∀ a, a < s.txWritten → s.txbuf.read a = t.txbuf.read a
  /-- Everything else is the same. -/
  rest : { s with rxbuf := [], txbuf := [] } = { t with rxbuf := [], txbuf := [] }

/-- The same answer up to stale buffer bytes. -/
def SameLiveResult : Result → Result → Prop
  | .next s, .next t => s.SameLive t
  | .refused r, .refused q => r = q
  | .fault f, .fault g => f = g
  | .next _, .refused _ => False
  | .next _, .fault _ => False
  | .refused _, .next _ => False
  | .refused _, .fault _ => False
  | .fault _, .next _ => False
  | .fault _, .refused _ => False

/-- t is s after frame_reset(): the values of R231, and everything else unchanged (REG, DEVADDR, RXBUF and TXBUF among it). -/
def State.isFrameResetOf (t s : State) : Prop :=
  t.state = .idle ∧ t.rxcur = 0 ∧ t.explen = 6 ∧ t.txcur = 0 ∧ t.txlen = 0 ∧ t.tmrEn = false ∧ t.tmrCount = 0 ∧
    t.tmrTarget = 0 ∧ t.lineTx = false ∧ t.wordsDone = none ∧ t.regs = s.regs ∧ t.devaddr = s.devaddr ∧
    t.rxbuf = s.rxbuf ∧ t.txbuf = s.txbuf ∧ t.params = s.params ∧ t.input = s.input ∧ t.outputs = s.outputs ∧
    t.draws = s.draws

/-- t is s, but for the register map, after a response with these bytes was built in TXBUF and handed off (R155, R156): the
bytes of TXBUF past the response, and every other element, unchanged. -/
def State.answeredFrom (t s : State) (response : List Byte) : Prop :=
  t.txbuf.bytes 0 response.length = response ∧ (∀ a, response.length ≤ a → t.txbuf.read a = s.txbuf.read a) ∧
    t.txlen.toNat = response.length ∧ t.txcur = 0 ∧ t.state = .startingTransmission ∧ t.tmrEn = true ∧ t.tmrCount = 0 ∧
    t.tmrTarget = s.params.tTurn ∧ t.wordsDone = none ∧ t.devaddr = s.devaddr ∧ t.rxbuf = s.rxbuf ∧ t.rxcur = s.rxcur ∧
    t.explen = s.explen ∧ t.lineTx = s.lineTx ∧ t.params = s.params ∧ t.input = s.input ∧ t.outputs = s.outputs ∧
    t.draws = s.draws

/-- Register i holds v after, and every other register what it held before (R59). -/
def State.registerWritten (t s : State) (i : Nat) (v : Word) : Prop :=
  t.regs[i]? = some v ∧ ∀ k, k ≠ i → t.regs[k]? = s.regs[k]?

/-- n times the same instruction, stopping at the first refusal. -/
def execTimes (i : Instr) : Nat → State → Result
  | 0, s => .next s
  | n + 1, s =>
    match exec i s with
    | .next t => execTimes i n t
    | .fault f => .fault f
    | .refused r => .refused r

/-- The bytes received one after the other, one RX_BYTE each (R72). -/
def receiveAll : List Byte → State → Result
  | [], s => .next s
  | b :: bs, s =>
    match exec (.rxByte b) s with
    | .next t => receiveAll bs t
    | .fault f => .fault f
    | .refused r => .refused r

end Sys2Proof.Machine
end

