-- ==== Sys2Proof/Certificates/Slice0/Obligations.lean ====
section
/-! DEFINITION. The statements about the block, for the provers: each says in its docstring which rule of spec/ it
formalises. Where a clause rests on a choice of the model, the docstring names its log entry. -/

open Sys2Proof Sys2Proof.Machine

/-! ### Encodings -/

/-- Decoding the encoding of a well-formed event or request gives it back, with every operand (R70, R74 to R79). -/
def Obligations.DecodeOfEncodeIsIdentity : Prop :=
  ∀ i c, i.wellFormed = true → encode i = some c → decode c = .ok i

/-- An event word that decodes is the encoding of what it decodes to: no event has two words (R70, R71). -/
def Obligations.EncodeOfDecodedEventWord : Prop :=
  ∀ w i, decodeEvent w = .ok i → encode i = some (.word w)

/-- R71: kinds 8..15 and non-zero unused fields are refused by name, also for a word that is to come between two word
accesses of a PROCESS step under way; POWER_ON and PROCESS have no encoding. (While a PROCESS step is under way a plain
event word is not yet taken, R58 and log 6.) -/
def Obligations.UnspelledEventWordsRefused : Prop :=
  (∀ s w rest, s.Legal → (s.midProcess = false ∧ s.input = .event w :: rest ∨ s.input = .between w :: rest) →
      (8 ≤ (eventKind w).toNat ∨
        ((eventKind w).toNat ≤ 5 ∧ eventIndex w ≠ 0) ∨
        ((eventKind w = 1 ∨ eventKind w = 2 ∨ eventKind w = 3 ∨ eventKind w = 4 ∨ eventKind w = 6) ∧ eventData w ≠ 0) ∨
        ((eventKind w = 0 ∨ eventKind w = 5) ∧ 256 ≤ (eventData w).toNat)) →
      step s = .refused .badEvent) ∧
    encode .powerOn = none ∧ encode .process = none ∧
    ∀ w, decodeEvent w ≠ .ok .powerOn ∧ decodeEvent w ≠ .ok .process

/-- Words and frames written out from R70 and R74 to R76 decode to the instructions they stand for. -/
def Obligations.SpecWordsDecode : Prop :=
  decode (.word 0x000000D5) = .ok (.rxByte 0xD5) ∧
    decode (.word 0x10000000) = .ok .tick ∧
    decode (.word 0x50000007) = .ok (.setAddr 0x07) ∧
    decode (.word 0x60020000) = .ok (.loopRead 2) ∧
    decode (.word 0x70011234) = .ok (.loopWrite 1 0x1234) ∧
    decode (.frame [0x01, 0x06, 0x00, 0x01, 0x12, 0x34, 0xD5, 0x7D]) = .ok (.fc06 1 1 0x1234)

/-- R54, R77, R79: every 16-bit field of a request is high byte first, for any bytes in its places. -/
def Obligations.RequestFieldsAreHighByteFirst : Prop :=
  (∀ a b, (join a b).toNat = a.toNat * 256 + b.toNat) ∧
    (∀ a s1 s0 c1 c0,
      decode (.frame (withCrc [a, 0x03, s1, s0, c1, c0])) = .ok (.fc03 a (join s1 s0) (join c1 c0)) ∧
        decode (.frame (withCrc [a, 0x06, s1, s0, c1, c0])) = .ok (.fc06 a (join s1 s0) (join c1 c0))) ∧
    ∀ (a s1 s0 c1 c0 byteCount : Byte) (payload : List (Byte × Byte)),
      payload.length = c1.toNat * 256 + c0.toNat →
      decode (.frame (withCrc ([a, 0x10, s1, s0, c1, c0, byteCount] ++ payload.flatMap fun p => [p.1, p.2]))) =
        .ok (.fc16 a (join s1 s0) (join c1 c0) byteCount (payload.map fun p => join p.1 p.2))

/-! ### CRC -/

/-- R100, R101: the CRC of nothing is 0xFFFF, and one more byte is XORed into bits 7:0 and shifted out in 8 iterations. R100
marks the per-bit step as from general knowledge, not in source: it is PRESUMED, log 15. -/
def Obligations.CrcBitStep : Prop :=
  crc16 [] = 0xFFFF#16 ∧
    ∀ bytes b, crc16 (bytes ++ [b]) =
      (fun c : Word => if c.getLsbD 0 then (c >>> 1) ^^^ 0xA001#16 else c >>> 1)^[8] (crc16 bytes ^^^ b.setWidth 16)

/-- Values of 95_test_vectors.md: V-CRC-2 to V-CRC-6, and a master's frame that fails the variant check of R105 (V-CRC-9). -/
def Obligations.CrcWorkedValues : Prop :=
  crc16 [0x00] = 0x40BF ∧ crc16 [0x01] = 0x807E ∧
    crc16 [0x31, 0x32, 0x33, 0x34, 0x35, 0x36, 0x37, 0x38, 0x39] = 0x4B37 ∧
    crc16 [0x01, 0x03, 0x00, 0x00, 0x00, 0x01] = 0x0A84 ∧
    crc16 [0x01, 0x06, 0x00, 0x01, 0x12, 0x34] = 0x7DD5 ∧
    crcOk .sourceLiteral [0x01, 0x03, 0x00, 0x00, 0x00, 0x01, 0x84, 0x0A] = false

/-- R106: a frame finished by its CRC passes the check, and a copy with any single bit flipped fails it. The third clause,
that the CRC over the whole frame is 0, is what R106 marks as from general knowledge, not in source; it rests on the per-bit
step of R100, which is PRESUMED (log 15). -/
def Obligations.CrcRoundTripAndBitFlips : Prop :=
  ∀ bytes : List Byte, bytes.length ≤ 253 →
    crcOk .standard (withCrc bytes) = true ∧
      (∀ k bit, k < bytes.length + 2 → bit < 8 →
        crcOk .standard ((withCrc bytes).modify k (fun b => b ^^^ (1#8 <<< bit))) = false) ∧
      crc16 (withCrc bytes) = 0

/-- R103: append_crc(m) puts the CRC of the first m bytes after them, low byte first, and sets TXLEN; nothing else changes. -/
def Obligations.AppendCrcLowByteFirst : Prop :=
  ∀ (s : State) (m : Nat), s.txbuf.wf = true → m + 2 ≤ 255 →
    (s.appendCrc m).txbuf.read m = (crc16 (s.txbuf.bytes 0 m)).extractLsb' 0 8 ∧
      (s.appendCrc m).txbuf.read (m + 1) = (crc16 (s.txbuf.bytes 0 m)).extractLsb' 8 8 ∧
      (s.appendCrc m).txlen.toNat = m + 2 ∧
      (∀ a, a ≠ m → a ≠ m + 1 → (s.appendCrc m).txbuf.read a = s.txbuf.read a) ∧
      { s.appendCrc m with txbuf := s.txbuf, txlen := s.txlen } = s

/-! ### Receive side -/

/-- R112 with R111, R113, R114: RX_BYTE in Idle stores the byte (dropped at capacity), arms the timer on the first byte
and restarts it on a later one, and inspects exactly when INSPECT_AT bytes are stored: address first, then function. -/
def Obligations.RxByteInIdle : Prop :=
  ∀ s b, s.Legal → s.rxbuf.wf = true → s.state = .idle →
    ∃ t, exec (.rxByte b) s = .next t ∧
      t.rxcur.toNat = (if s.rxcur.toNat < 255 then s.rxcur.toNat + 1 else s.rxcur.toNat) ∧
      (∀ a, t.rxbuf.read a = if a = s.rxcur.toNat ∧ s.rxcur.toNat < 255 then b else s.rxbuf.read a) ∧
      t.tmrCount = 0 ∧
      t.tmrEn = (if s.rxcur = 0 then true else s.tmrEn) ∧
      t.tmrTarget = (if s.rxcur = 0 then s.params.tFrame else s.tmrTarget) ∧
      (t.rxcur.toNat ≠ s.params.inspectAt.bytes → t.state = .idle ∧ t.explen = s.explen) ∧
      (t.rxcur.toNat = s.params.inspectAt.bytes →
        ¬ (s.devaddr ≠ 0 ∧ t.rxbuf.read 0 = s.devaddr) → t.state = .ignoring ∧ t.explen = 255) ∧
      (t.rxcur.toNat = s.params.inspectAt.bytes → s.devaddr ≠ 0 ∧ t.rxbuf.read 0 = s.devaddr →
        ((t.rxbuf.read 1 = 0x03 ∨ t.rxbuf.read 1 = 0x06) → t.state = .receiving ∧ t.explen = 8) ∧
          (t.rxbuf.read 1 = 0x10 → t.state = .receiving ∧
            t.explen.toNat = s.params.fc16Base.value + 2 * ((t.rxbuf.read 4).toNat * 256 + (t.rxbuf.read 5).toNat)) ∧
          (t.rxbuf.read 1 ≠ 0x03 → t.rxbuf.read 1 ≠ 0x06 → t.rxbuf.read 1 ≠ 0x10 →
            t.state = .ignoring ∧ t.explen = 255)) ∧
      { t with
        state := s.state, rxbuf := s.rxbuf, rxcur := s.rxcur, explen := s.explen, tmrEn := s.tmrEn,
        tmrCount := s.tmrCount, tmrTarget := s.tmrTarget } = s

/-- R117: RX_BYTE in Receiving stores the byte, restarts the timer, and completes the frame exactly when RXCUR reaches
EXPLEN: the timer is disarmed and PROCESS becomes enabled. -/
def Obligations.RxByteInReceiving : Prop :=
  ∀ s b, s.Legal → s.rxbuf.wf = true → s.state = .receiving →
    ∃ t, exec (.rxByte b) s = .next t ∧
      t.rxcur.toNat = (if s.rxcur.toNat < 255 then s.rxcur.toNat + 1 else s.rxcur.toNat) ∧
      (∀ a, t.rxbuf.read a = if a = s.rxcur.toNat ∧ s.rxcur.toNat < 255 then b else s.rxbuf.read a) ∧
      t.tmrCount = 0 ∧
      (t.rxcur.toNat = s.explen.toNat → t.state = .processing ∧ t.tmrEn = false) ∧
      (t.rxcur.toNat ≠ s.explen.toNat → t.state = .receiving ∧ t.tmrEn = s.tmrEn) ∧
      { t with
        state := s.state, rxbuf := s.rxbuf, rxcur := s.rxcur, tmrEn := s.tmrEn, tmrCount := s.tmrCount } = s

/-- R118: RX_BYTE in Ignoring stores the byte up to capacity and restarts the timer; STATE does not change. -/
def Obligations.RxByteInIgnoring : Prop :=
  ∀ s b, s.Legal → s.rxbuf.wf = true → s.state = .ignoring →
    ∃ t, exec (.rxByte b) s = .next t ∧
      t.rxcur.toNat = (if s.rxcur.toNat < 255 then s.rxcur.toNat + 1 else s.rxcur.toNat) ∧
      (∀ a, t.rxbuf.read a = if a = s.rxcur.toNat ∧ s.rxcur.toNat < 255 then b else s.rxbuf.read a) ∧
      t.tmrCount = 0 ∧
      { t with rxbuf := s.rxbuf, rxcur := s.rxcur, tmrCount := s.tmrCount } = s

/-- R119: RX_BYTE has no effect while a frame is processed or answered. -/
def Obligations.RxByteLostWhileBusy : Prop :=
  ∀ s b, s.Legal → (s.state = .processing ∨ s.state = .startingTransmission ∨ s.state = .transmitting) →
    exec (.rxByte b) s = .next s

/-- A request frame addressed to the block, received byte by byte from quiet, ends in Processing with exactly that frame
in RXBUF, the timer disarmed and nothing else changed, and decodes to the request that was sent (R112 to R117, R89). -/
def Obligations.AddressedFrameIsReceived : Prop :=
  ∀ s i bytes, s.Legal → s.rxbuf.wf = true → s.quiet = true →
    s.params.fc16Base = .nine → s.params.crcCheck = .standard →
    i.wellFormed = true → encodeFrame i = some bytes → s.devaddr ≠ 0 → byteAt bytes 0 = s.devaddr →
    ∃ t, receiveAll bytes s = .next t ∧ t.state = .processing ∧ t.frame = bytes ∧ t.explen.toNat = bytes.length ∧
      t.tmrEn = false ∧ t.pendingRequest = some i ∧
      { t with
        state := s.state, rxbuf := s.rxbuf, rxcur := s.rxcur, explen := s.explen, tmrEn := s.tmrEn,
        tmrCount := s.tmrCount, tmrTarget := s.tmrTarget } = s

/-- A frame for another slave, or any frame while DEVADDR = 0, reaches Ignoring once INSPECT_AT bytes are there and never
the dispatcher, however long it is; registers, address, response and outputs stay (R113, R114, R118). -/
def Obligations.ForeignFrameIsIgnored : Prop :=
  ∀ s bytes, s.Legal → s.rxbuf.wf = true → s.quiet = true → s.params.inspectAt.bytes ≤ bytes.length →
    (s.devaddr = 0 ∨ byteAt bytes 0 ≠ s.devaddr) →
    ∃ t, receiveAll bytes s = .next t ∧ t.state = .ignoring ∧ t.rxcur.toNat = min bytes.length 255 ∧
      { t with
        state := s.state, rxbuf := s.rxbuf, rxcur := s.rxcur, explen := s.explen, tmrEn := s.tmrEn,
        tmrCount := s.tmrCount, tmrTarget := s.tmrTarget } = s

/-! ### Transmit side -/

/-- R120: TX_READY emits the next byte in Transmitting while bytes remain; otherwise it has no effect. -/
def Obligations.TxReadyEmitsNextByte : Prop :=
  ∀ s, s.Legal →
    exec .txReady s = .next
      (if s.state = .transmitting ∧ s.txcur.toNat < s.txlen.toNat then
        { s with outputs := s.outputs ++ [.txByte (s.txbuf.read s.txcur.toNat)], txcur := s.txcur + 1 }
      else s)

/-- R121: TX_COMPLETE performs the frame reset in Transmitting once all bytes are handed over; otherwise it has no effect. -/
def Obligations.TxCompleteReleasesTheLine : Prop :=
  ∀ s, s.Legal →
    ∃ t, exec .txComplete s = .next t ∧
      (s.state = .transmitting ∧ s.txcur = s.txlen → t.isFrameResetOf s) ∧
      (¬ (s.state = .transmitting ∧ s.txcur = s.txlen) → t = s)

/-- As many TX_READY as bytes remain emit exactly the rest of the response, in order, and one more emits nothing: the line
is still driven until TX_COMPLETE (R120, R121, R171, R245). -/
def Obligations.DrainEmitsTheResponse : Prop :=
  ∀ s n, s.Legal → s.state = .transmitting → s.txcur.toNat + n = s.txlen.toNat →
    ∃ t, execTimes .txReady n s = .next t ∧
      t = { s with
        outputs := s.outputs ++ (s.txbuf.bytes s.txcur.toNat n).map Output.txByte, txcur := s.txlen } ∧
      exec .txReady t = .next t

/-! ### Watchdog -/

/-- R175: a TICK while the timer is disarmed has no effect; while armed it counts, and below the target that is all. -/
def Obligations.TickCounts : Prop :=
  ∀ s, s.Legal →
    (s.tmrEn = false → exec .tick s = .next s) ∧
      (s.tmrEn = true → s.tmrCount.toNat + 1 < s.tmrTarget.toNat →
        exec .tick s = .next { s with tmrCount := s.tmrCount + 1 })

/-- R176: an expiry in Idle, Receiving or Ignoring is a frame timeout: the frame reset, nothing emitted. -/
def Obligations.ExpiryDiscardsTheFrame : Prop :=
  ∀ s, s.Legal → (s.state = .idle ∨ s.state = .receiving ∨ s.state = .ignoring) → s.tmrEn = true →
    s.tmrTarget.toNat ≤ s.tmrCount.toNat + 1 →
    ∃ t, exec .tick s = .next t ∧ t.isFrameResetOf s

/-- R177, R178: an expiry in StartingTransmission disarms the timer, drives the line, emits the first response byte and
goes to Transmitting, in one step. -/
def Obligations.ExpiryStartsTransmission : Prop :=
  ∀ s, s.Legal → s.state = .startingTransmission → s.tmrEn = true → s.tmrTarget.toNat ≤ s.tmrCount.toNat + 1 →
    exec .tick s = .next { s with
      tmrEn := false, tmrCount := s.tmrCount + 1, lineTx := true,
      outputs := s.outputs ++ [.txByte (s.txbuf.read 0)], txcur := 1, state := .transmitting }

/-- R179: an expiry in Processing or Transmitting, which no run reaches, only disarms the timer. -/
def Obligations.ExpiryElsewhereDisarms : Prop :=
  ∀ s, s.Legal → (s.state = .processing ∨ s.state = .transmitting) → s.tmrEn = true →
    s.tmrTarget.toNat ≤ s.tmrCount.toNat + 1 →
    exec .tick s = .next { s with tmrEn := false, tmrCount := s.tmrCount + 1 }

/-- R175, R176, R123: with the timer armed on the receive side, TMR_TARGET - TMR_COUNT ticks of silence end in the frame
reset, and fewer only count. -/
def Obligations.SilenceEndsTheFrame : Prop :=
  ∀ s, s.Inv → (s.state = .idle ∨ s.state = .receiving ∨ s.state = .ignoring) → s.tmrEn = true →
    (∀ n, n < s.tmrTarget.toNat - s.tmrCount.toNat →
      execTimes .tick n s = .next { s with tmrCount := s.tmrCount + BitVec.ofNat 16 n }) ∧
    ∃ t, execTimes .tick (s.tmrTarget.toNat - s.tmrCount.toNat) s = .next t ∧ t.isFrameResetOf s

/-- R156, R177, R178, R180: TMR_TARGET - TMR_COUNT ticks after the hand-off the line is driven and the first byte is out,
and with fewer ticks the line stays in receive and nothing is emitted. -/
def Obligations.TurnaroundEndsInTransmission : Prop :=
  ∀ s, s.Inv → s.state = .startingTransmission →
    (∀ n, n < s.tmrTarget.toNat - s.tmrCount.toNat →
      ∃ t, execTimes .tick n s = .next t ∧ t.lineTx = false ∧ t.outputs = s.outputs) ∧
    ∃ t, execTimes .tick (s.tmrTarget.toNat - s.tmrCount.toNat) s = .next t ∧ t.state = .transmitting ∧
      t.lineTx = true ∧ t.outputs = s.outputs ++ [.txByte (s.txbuf.read 0)] ∧ t.txcur = 1 ∧ t.tmrEn = false

/-- R207, first bullet: the expiring TICK and the last byte of a frame, in both orders. -/
def Obligations.LastByteRacesTheExpiringTick : Prop :=
  ∀ s b t u, s.Inv → s.state = .receiving → s.rxcur.toNat + 1 = s.explen.toNat → s.rxcur.toNat < 255 →
    s.tmrTarget.toNat = s.tmrCount.toNat + 1 → exec .tick s = .next t → exec (.rxByte b) s = .next u →
    (∃ v, exec (.rxByte b) t = .next v ∧ v.state = .idle ∧ v.rxcur = 1 ∧ v.tmrEn = true ∧ v.tmrCount = 0 ∧
      v.tmrTarget = s.params.tFrame) ∧
    (u.state = .processing ∧ u.tmrEn = false ∧ exec .tick u = .next u)

/-! ### RESET, SET_ADDR, POWER_ON -/

/-- R231, R232: RESET performs the frame reset in every state; REG, DEVADDR and the buffers stay. -/
def Obligations.ResetFromAnyState : Prop :=
  ∀ s, s.Legal → ∃ t, exec .reset s = .next t ∧ t.isFrameResetOf s

/-- R234: the frame reset gives the same values of every element it writes whatever state it is applied to, so a second
reset changes nothing. -/
def Obligations.ResetIsIdempotent : Prop :=
  ∀ s q t u, exec .reset s = .next t → exec .reset q = .next u →
    (t.state = u.state ∧ t.rxcur = u.rxcur ∧ t.explen = u.explen ∧ t.txcur = u.txcur ∧ t.txlen = u.txlen ∧
      t.tmrEn = u.tmrEn ∧ t.tmrCount = u.tmrCount ∧ t.tmrTarget = u.tmrTarget ∧ t.lineTx = u.lineTx) ∧
    exec .reset t = .next t

/-- R125: SET_ADDR writes DEVADDR in every state, at once, and nothing else. -/
def Obligations.SetAddrInAnyState : Prop :=
  ∀ s a, s.Legal → exec (.setAddr a) s = .next { s with devaddr := a }

/-- R230, R233: POWER_ON loads REG_INIT and DEVADDR_INIT and leaves every other element of the block at its reset value;
the buffers hold any bytes in canonical form. The parameters, the input stream and the outputs are not the block's. -/
def Obligations.PowerOnLoadsInitialValues : Prop :=
  ∀ s, s.Legal →
    ∃ t, exec .powerOn s = .next t ∧ t.regs = s.params.regInit ∧ t.devaddr = s.params.devaddrInit ∧
      t.state = .idle ∧ t.rxcur = 0 ∧ t.explen = 6 ∧ t.txcur = 0 ∧ t.txlen = 0 ∧ t.tmrEn = false ∧ t.tmrCount = 0 ∧
      t.tmrTarget = 0 ∧ t.lineTx = false ∧ t.stateOut = 0 ∧ t.quiet = true ∧ t.rxbuf.wf = true ∧ t.txbuf.wf = true ∧
      t.wordsDone = none ∧ t.params = s.params ∧ t.input = s.input ∧ t.outputs = s.outputs

/-! ### The control-loop port -/

/-- R65: LOOP_READ returns the register and changes no state of the block (the model keeps the returned value in its
outputs, log 7). -/
def Obligations.LoopReadReturnsTheRegister : Prop :=
  ∀ s i v, s.Legal → s.regs[BitVec.toNat i]? = some v →
    exec (.loopRead i) s = .next { s with outputs := s.outputs ++ [.loopValue v] }

/-- R66: LOOP_WRITE writes exactly one register, in every STATE. -/
def Obligations.LoopWriteWritesOneRegister : Prop :=
  ∀ s i v, s.Legal → BitVec.toNat i < s.n →
    ∃ t, exec (.loopWrite i v) s = .next t ∧ t.registerWritten s i.toNat v ∧ { t with regs := s.regs } = s

/-- R67: an index of N or more is refused on both loop-port events. -/
def Obligations.LoopIndexOutOfRangeRefused : Prop :=
  ∀ s i v, s.Legal → s.n ≤ BitVec.toNat i →
    exec (.loopRead i) s = .refused .loopIndex ∧ exec (.loopWrite i v) s = .refused .loopIndex

/-! ### Dispatcher -/

/-- R143, R147, R150, R154: a request that names a register that does not exist is answered with exception code 2, the
function code with bit 7 set, and writes no register. -/
def Obligations.OutOfRangeGetsExceptionTwo : Prop :=
  ∀ s, s.Legal → s.state = .processing → s.txbuf.wf = true →
    (∀ a start count, s.n < BitVec.toNat start + BitVec.toNat count →
      ∃ t, exec (.fc03 a start count) s = .next t ∧ t.answeredFrom s (withCrc [s.devaddr, 0x83, 2]) ∧ t.regs = s.regs) ∧
    (∀ a address value, s.n ≤ BitVec.toNat address →
      ∃ t, exec (.fc06 a address value) s = .next t ∧ t.answeredFrom s (withCrc [s.devaddr, 0x86, 2]) ∧
        t.regs = s.regs) ∧
    ∀ a start count byteCount words, s.n < BitVec.toNat start + BitVec.toNat count →
      ∃ t, exec (.fc16 a start count byteCount words) s = .next t ∧
        t.answeredFrom s (withCrc [s.devaddr, 0x90, 2]) ∧ t.regs = s.regs

/-- R144, R145, R155: an FC03 whose range check passes, run without interference, answers DEVADDR, 03, 2·count, the
registers in order high byte first, and the CRC; no register changes. That it takes one step a word, and at least one, is
the model's reading of R58 (DEDUCED, log 6). -/
def Obligations.Fc03AnswersTheRegisters : Prop :=
  ∀ s a start count, s.Legal → s.state = .processing → s.txbuf.wf = true → s.wordsDone = none →
    BitVec.toNat start + BitVec.toNat count ≤ s.n →
    ∃ t, execTimes (.fc03 a start count) (max 1 count.toNat) s = .next t ∧
      t.answeredFrom s (withCrc ([s.devaddr, 0x03, BitVec.ofNat 8 (2 * count.toNat)] ++
        wordBytes ((s.regs.drop start.toNat).take count.toNat))) ∧
      t.regs = s.regs

/-- R58, R144: a step of FC03 with words left after it reads exactly the next word into its two bytes of TXBUF (after the
header, at the first word) and changes no other element; the step of the last word reads that word alone, leaves the words
and the header written before it as they are, and hands the response off. -/
def Obligations.Fc03ReadsOneWordAStep : Prop :=
  ∀ s a start count j, s.Legal → s.state = .processing → s.txbuf.wf = true →
    BitVec.toNat start + BitVec.toNat count ≤ s.n → j = s.wordsDone.getD 0 →
    (j + 1 < count.toNat →
      ∃ t v, exec (.fc03 a start count) s = .next t ∧ s.regs[start.toNat + j]? = some v ∧
        t.txbuf.read (3 + 2 * j) = hi v ∧ t.txbuf.read (4 + 2 * j) = lo v ∧
        (s.wordsDone = none → t.txbuf.read 0 = s.devaddr ∧ t.txbuf.read 1 = 0x03 ∧
          t.txbuf.read 2 = BitVec.ofNat 8 (2 * count.toNat)) ∧
        (∀ k, k ≠ 3 + 2 * j → k ≠ 4 + 2 * j → 3 ≤ k ∨ s.wordsDone ≠ none → t.txbuf.read k = s.txbuf.read k) ∧
        t.wordsDone = some (j + 1) ∧ { t with txbuf := s.txbuf, wordsDone := s.wordsDone } = s) ∧
    (count.toNat ≤ j + 1 →
      ∃ t, exec (.fc03 a start count) s = .next t ∧ t.state = .startingTransmission ∧ t.txcur = 0 ∧
        t.txlen.toNat = 5 + 2 * count.toNat ∧ t.tmrEn = true ∧ t.tmrCount = 0 ∧ t.tmrTarget = s.params.tTurn ∧
        t.wordsDone = none ∧
        (∀ v, j + 1 = count.toNat → s.regs[start.toNat + j]? = some v →
          t.txbuf.read (3 + 2 * j) = hi v ∧ t.txbuf.read (4 + 2 * j) = lo v) ∧
        (s.wordsDone = none → t.txbuf.read 0 = s.devaddr ∧ t.txbuf.read 1 = 0x03 ∧
          t.txbuf.read 2 = BitVec.ofNat 8 (2 * count.toNat)) ∧
        (∀ k, k < 3 + 2 * count.toNat → k ≠ 3 + 2 * j → k ≠ 4 + 2 * j → 3 ≤ k ∨ s.wordsDone ≠ none →
          t.txbuf.read k = s.txbuf.read k) ∧
        t.txbuf.bytes 0 t.txlen.toNat = withCrc (t.txbuf.bytes 0 (3 + 2 * count.toNat)) ∧
        (∀ k, 5 + 2 * count.toNat ≤ k → t.txbuf.read k = s.txbuf.read k) ∧
        { t with
          txbuf := s.txbuf, state := s.state, txcur := s.txcur, txlen := s.txlen, tmrEn := s.tmrEn,
          tmrCount := s.tmrCount, tmrTarget := s.tmrTarget, wordsDone := s.wordsDone } = s)

/-- R147, R149: an FC06 whose address is below N writes exactly that register with the value, unchanged, and answers with
the echo of address and value and a fresh CRC. -/
def Obligations.Fc06WritesAndEchoes : Prop :=
  ∀ s a address value, s.Legal → s.state = .processing → s.txbuf.wf = true → BitVec.toNat address < s.n →
    ∃ t, exec (.fc06 a address value) s = .next t ∧ t.registerWritten s address.toNat value ∧
      t.answeredFrom s (withCrc [s.devaddr, 0x06, hi address, lo address, hi value, lo value])

/-- R148: the FC06 response is 8 bytes and equals the request frame whenever DEVADDR is the frame's address byte. -/
def Obligations.Fc06EchoEqualsTheRequest : Prop :=
  ∀ s a address value, s.Legal → s.state = .processing → s.txbuf.wf = true → s.params.crcCheck = .standard →
    s.pendingRequest = some (.fc06 a address value) → s.devaddr = a → BitVec.toNat address < s.n →
    ∃ t, exec .process s = .next t ∧ t.txlen = 8 ∧ t.txbuf.bytes 0 t.txlen.toNat = s.frame

/-- R60, R243 (property 4 of the source): a value written by FC06 is what an FC03 of that register answers, as long as
the register map is as FC06 left it. -/
def Obligations.Fc06ValueIsReadBack : Prop :=
  ∀ s t u a b r v, exec (.fc06 a r v) s = .next t → BitVec.toNat r < s.n → u.Legal → u.state = .processing →
    u.txbuf.wf = true → u.wordsDone = none → u.params = t.params → u.regs = t.regs →
    ∃ x, exec (.fc03 b r 1) u = .next x ∧ x.answeredFrom u (withCrc [u.devaddr, 0x03, 2, hi v, lo v])

/-- R151, R152, R153: an FC16 whose range check passes, run without interference, overwrites exactly registers start to
start + count - 1 with its payload words and answers with the echo of start and count. That it takes one step a word, and at
least one, is the model's reading of R58 (DEDUCED, log 6), and that the echo is built from the operands is log 8 (DEDUCED). -/
def Obligations.Fc16WritesAndEchoes : Prop :=
  ∀ s a start count byteCount words, s.Legal → s.state = .processing → s.txbuf.wf = true → s.wordsDone = none →
    BitVec.toNat start + BitVec.toNat count ≤ s.n → words.length = count.toNat →
    ∃ t, execTimes (.fc16 a start count byteCount words) (max 1 count.toNat) s = .next t ∧
      (∀ k, t.regs[k]? =
        if start.toNat ≤ k ∧ k < start.toNat + count.toNat then words[k - start.toNat]? else s.regs[k]?) ∧
      t.answeredFrom s (withCrc [s.devaddr, 0x10, hi start, lo start, hi count, lo count])

/-- R58, R151: a step of FC16 with words left after it writes exactly the next payload word to its register and changes no
other element; the step of the last word hands the echo off. The byte count is not read (R90). -/
def Obligations.Fc16WritesOneWordAStep : Prop :=
  ∀ s a start count byteCount words j, s.Legal → s.state = .processing → s.txbuf.wf = true →
    BitVec.toNat start + BitVec.toNat count ≤ s.n → words.length = count.toNat → j = s.wordsDone.getD 0 →
    (j + 1 < count.toNat →
      ∃ t v, exec (.fc16 a start count byteCount words) s = .next t ∧ words[j]? = some v ∧
        t.registerWritten s (start.toNat + j) v ∧ t.wordsDone = some (j + 1) ∧
        { t with regs := s.regs, wordsDone := s.wordsDone } = s) ∧
    (j + 1 = count.toNat →
      ∃ t v, exec (.fc16 a start count byteCount words) s = .next t ∧ words[j]? = some v ∧
        t.registerWritten s (start.toNat + j) v ∧
        t.answeredFrom s (withCrc [s.devaddr, 0x10, hi start, lo start, hi count, lo count])) ∧
    (count = 0 →
      ∃ t, exec (.fc16 a start count byteCount words) s = .next t ∧ t.regs = s.regs ∧
        t.answeredFrom s (withCrc [s.devaddr, 0x10, hi start, lo start, hi count, lo count]))

/-- R141, R157: PROCESS checks the CRC first; on a mismatch it performs the frame reset, whatever the frame asks for. -/
def Obligations.ProcessDiscardsOnCrcMismatch : Prop :=
  ∀ s, s.Legal → s.state = .processing → 8 ≤ s.rxcur.toNat → crcOk s.params.crcCheck s.frame = false →
    ∃ t, exec .process s = .next t ∧ t.isFrameResetOf s

/-- R140: PROCESS on a complete and valid frame is the request the frame spells, and answers a next state. -/
def Obligations.ProcessRunsTheRequest : Prop :=
  ∀ s i, s.Legal → s.state = .processing → decodeFrame s.params.crcCheck s.params.fc16Base s.frame = .ok i →
    exec .process s = exec i s ∧ ∃ t, exec .process s = .next t

/-- R140, R142: PROCESS outside Processing is not enabled and is refused (log 10), and so is a valid frame of another
function code. -/
def Obligations.ProcessRefusals : Prop :=
  ∀ s, s.Legal →
    (s.state ≠ .processing → exec .process s = .refused .notProcessing) ∧
    (s.state = .processing → 8 ≤ s.rxcur.toNat → crcOk s.params.crcCheck s.frame = true →
      s.rxbuf.read 1 ≠ 0x03 → s.rxbuf.read 1 ≠ 0x06 → s.rxbuf.read 1 ≠ 0x10 →
      exec .process s = .refused .unreachableFc)

/-! ### The step -/

/-- A step takes the next event of the stream and runs the instruction its word spells; a turn in which power comes on runs
POWER_ON (R10, R70, R230; the stream is the model's, log 5 and log 12). -/
def Obligations.StepRunsTheNextEvent : Prop :=
  ∀ s rest, s.midProcess = false →
    (∀ w i, (s.input = .event w :: rest ∨ s.input = .between w :: rest) → decodeEvent w = .ok i →
      step s = exec i { s with input := rest }) ∧
    (s.input = .powerOn :: rest → step s = exec .powerOn { s with input := rest })

/-- In Processing the dispatcher's turn, and an empty stream, run the request in the receive buffer (R140, R160), also where
a PROCESS step is under way: there the turn is taken by its next word access (R58). While a PROCESS step is under way it
goes on at every other turn that is no access of the control loop, and that turn waits (R58, R63; log 6). -/
def Obligations.StepRunsThePendingRequest : Prop :=
  ∀ s i, s.Legal → s.state = .processing → s.pendingRequest = some i →
    (∀ rest, s.input = .dispatcher :: rest → step s = exec i { s with input := rest }) ∧
    (s.input = [] → step s = exec i s) ∧
    (s.midProcess = true →
      (∀ w rest, s.input = .event w :: rest → step s = exec i s) ∧
      (∀ rest, s.input = .powerOn :: rest → step s = exec i s) ∧
      (∀ w rest e, s.input = .between w :: rest → decodeEvent w = .ok e → (∀ k, e ≠ .loopRead k) →
        (∀ k v, e ≠ .loopWrite k v) → step s = exec i s))

/-- Where PROCESS is not enabled, a turn of the dispatcher has no effect, and with no turn left the block waits (R12, R140;
log 5). -/
def Obligations.StepWaitsWithoutEvents : Prop :=
  ∀ s, s.Legal → s.state ≠ .processing →
    (s.input = [] → step s = .next s) ∧
    (∀ rest, s.input = .dispatcher :: rest → step s = .next { s with input := rest })

/-- R58: an access of the control loop may take effect between two word accesses of a PROCESS step; the PROCESS step stays
where it was. -/
def Obligations.LoopAccessBetweenTwoWords : Prop :=
  ∀ s w rest i v, s.Legal → s.midProcess = true → s.input = .between w :: rest → BitVec.toNat i < s.n →
    (decodeEvent w = .ok (.loopWrite i v) →
      ∃ t, step s = .next t ∧ t.registerWritten s i.toNat v ∧ t.wordsDone = s.wordsDone ∧
        t.input = rest ∧ { t with regs := s.regs, input := s.input } = s) ∧
    (decodeEvent w = .ok (.loopRead i) →
      ∃ t x, step s = .next t ∧ s.regs[i.toNat]? = some x ∧
        t = { s with input := rest, outputs := s.outputs ++ [.loopValue x] })

/-- R7, R6: parameters outside their ranges are refused, whatever the next turn is. -/
def Obligations.BadParametersRefused : Prop :=
  ∀ s, (s.n = 0 ∨ 125 < s.n ∨ s.params.tFrame = 0 ∨ s.params.tTurn = 0) → step s = .refused .badParameters

/-- R24: a state with STATE 6 or 7 is refused and never given a step, and no instruction ever writes such a code. -/
def Obligations.ReservedStateCodes : Prop :=
  (∀ s, paramsValid s.params = true → s.regs.length = s.n → (s.stateOut = 6 ∨ s.stateOut = 7) →
    step s = .refused .badState ∧ ∀ i, exec i s = .refused .badState) ∧
  ∀ i s t, exec i s = .next t → t.stateOut ≠ 6 ∧ t.stateOut ≠ 7

/-! ### Whole-machine rules -/

/-- R32, R23: STATE_OUT is the code of STATE in the enum's order, and QUIET is 1 exactly in Idle with RXCUR = 0. -/
def Obligations.StatusOutputs : Prop :=
  ∀ s : State, (s.quiet = true ↔ s.state = .idle ∧ s.rxcur = 0) ∧
    (s.stateOut = 0 ↔ s.state = .idle) ∧ (s.stateOut = 1 ↔ s.state = .receiving) ∧
    (s.stateOut = 2 ↔ s.state = .processing) ∧ (s.stateOut = 3 ↔ s.state = .ignoring) ∧
    (s.stateOut = 4 ↔ s.state = .startingTransmission) ∧ (s.stateOut = 5 ↔ s.state = .transmitting)

/-- The invariant of R37 holds right after POWER_ON, for every legal parameter set, and so at the model's reset; and a
transport that has sent nothing is in step with the block there. -/
def Obligations.InvariantAfterPowerOn : Prop :=
  (∀ p, paramsValid p = true → (State.afterPowerOn p).Inv) ∧ State.reset.Inv ∧
    ∀ p received, ({ block := State.afterPowerOn p, transport := .quiet received } : System).inStep

/-- R31, R37: every step keeps the invariant table, the timer's bound, LINE_TX = 1 exactly in Transmitting, and the
canonical form of the buffers. -/
def Obligations.StepKeepsTheInvariant : Prop :=
  ∀ s t, s.Inv → step s = .next t → t.Inv

/-- R200, R142, R24, R71, R67: in a state that meets the invariant a step answers a next state, or its next turn carries a
word that spells no event and it is refused as badEvent, or that word is a loop-port access with an index of N or more and
it is refused as loopIndex. So neither an impossible STATE nor an unreachable frame is ever met. -/
def Obligations.OnlyBadInputIsRefused : Prop :=
  ∀ s, s.Inv →
    (∃ t, step s = .next t) ∨
    (∃ turn rest w r, s.input = turn :: rest ∧ turn.word = some w ∧ decodeEvent w = .error r ∧
      step s = .refused .badEvent) ∨
    (∃ turn rest w k, s.input = turn :: rest ∧ turn.word = some w ∧ s.n ≤ BitVec.toNat k ∧
      (decodeEvent w = .ok (.loopRead k) ∨ ∃ v, decodeEvent w = .ok (.loopWrite k v)) ∧ step s = .refused .loopIndex)

/-- R171: LINE_TX rises only in an expiring TICK in StartingTransmission, in the step that emits the first response byte,
and falls only in a frame reset. -/
def Obligations.LineDirectionDiscipline : Prop :=
  ∀ i s t, exec i s = .next t →
    (s.lineTx = false → t.lineTx = true →
      i = .tick ∧ s.state = .startingTransmission ∧ t.state = .transmitting ∧
        t.outputs = s.outputs ++ [.txByte (s.txbuf.read 0)]) ∧
    (s.lineTx = true → t.lineTx = false → t.state = .idle ∧ t.rxcur = 0 ∧ t.txlen = 0 ∧ t.tmrEn = false)

/-- R52, R22: only FC06, FC16 (through PROCESS), LOOP_WRITE and POWER_ON write the register map, only SET_ADDR and
POWER_ON write DEVADDR, and no instruction changes the parameters. -/
def Obligations.WritersOfRegistersAndAddress : Prop :=
  ∀ i s t, exec i s = .next t →
    t.params = s.params ∧ t.regs.length = s.regs.length ∧
    (t.regs = s.regs ∨ i = .powerOn ∨ i = .process ∨ (∃ k v, i = .loopWrite k v) ∨ (∃ a r v, i = .fc06 a r v) ∨
      ∃ a st ct bc ws, i = .fc16 a st ct bc ws) ∧
    (t.devaddr = s.devaddr ∨ i = .powerOn ∨ ∃ a, i = .setAddr a)

/-- R9, R11: a byte is emitted only by an expiring TICK in StartingTransmission or by TX_READY in Transmitting, a value is
returned only by LOOP_READ, at most one thing is given out in a step, and nothing given out is taken back. -/
def Obligations.WhatIsGivenOut : Prop :=
  ∀ i s t, exec i s = .next t →
    t.outputs = s.outputs ∨
    (i = .tick ∧ s.state = .startingTransmission ∧ t.outputs = s.outputs ++ [.txByte (s.txbuf.read 0)]) ∨
    (i = .txReady ∧ s.state = .transmitting ∧ s.txcur.toNat < s.txlen.toNat ∧
      t.outputs = s.outputs ++ [.txByte (s.txbuf.read s.txcur.toNat)]) ∨
    ∃ k v, i = .loopRead k ∧ s.regs[k.toNat]? = some v ∧ t.outputs = s.outputs ++ [.loopValue v]

/-- R122: the transitions of STATE. A pair that the table does not list leaves STATE as it is; PROCESS stays in Processing
between two word accesses (R58, log 6). -/
def Obligations.StateTransitions : Prop :=
  ∀ i s t, exec i s = .next t →
    t.state = s.state ∨
    (t.state = .idle ∧ (i = .reset ∨ i = .powerOn)) ∨
    (t.state = .idle ∧ i = .tick ∧ s.tmrEn = true ∧ s.tmrTarget.toNat ≤ s.tmrCount.toNat + 1 ∧
      (s.state = .receiving ∨ s.state = .ignoring)) ∨
    (t.state = .idle ∧ i = .txComplete ∧ s.state = .transmitting ∧ s.txcur = s.txlen) ∨
    (t.state = .idle ∧ i = .process ∧ s.state = .processing ∧ crcOk s.params.crcCheck s.frame = false) ∨
    (t.state = .receiving ∧ (∃ b, i = .rxByte b) ∧ s.state = .idle ∧ t.rxcur.toNat = s.params.inspectAt.bytes ∧
      s.addrMatch (t.rxbuf.read 0) = true ∧
      (t.rxbuf.read 1 = 0x03 ∨ t.rxbuf.read 1 = 0x06 ∨ t.rxbuf.read 1 = 0x10)) ∨
    (t.state = .ignoring ∧ (∃ b, i = .rxByte b) ∧ s.state = .idle ∧ t.rxcur.toNat = s.params.inspectAt.bytes ∧
      ¬ (s.addrMatch (t.rxbuf.read 0) = true ∧
        (t.rxbuf.read 1 = 0x03 ∨ t.rxbuf.read 1 = 0x06 ∨ t.rxbuf.read 1 = 0x10))) ∨
    (t.state = .processing ∧ (∃ b, i = .rxByte b) ∧ s.state = .receiving ∧ t.rxcur.toNat = s.explen.toNat) ∨
    (t.state = .startingTransmission ∧ s.state = .processing ∧
      ((i = .process ∧ crcOk s.params.crcCheck s.frame = true) ∨ (∃ a st ct, i = .fc03 a st ct) ∨
        (∃ a r v, i = .fc06 a r v) ∨ ∃ a st ct bc ws, i = .fc16 a st ct bc ws)) ∨
    (t.state = .transmitting ∧ i = .tick ∧ s.state = .startingTransmission ∧ s.tmrEn = true ∧
      s.tmrTarget.toNat ≤ s.tmrCount.toNat + 1)

/-- R148, R159, R238: if SET_ADDR comes only while QUIET = 1, then from the inspection to the end of the transaction the
request's address byte is DEVADDR, and the response begins with it. -/
def Obligations.AddressDutyKeepsTheAddress : Prop :=
  ∀ s t, s.Inv → s.addressHeld → s.addressDuty → step s = .next t → t.addressHeld

/-- R38: bytes of RXBUF at or past RXCUR and bytes of TXBUF past what is written for the response never matter: two states
that differ in such bytes alone give the same answer up to such bytes. -/
def Obligations.StaleBytesAreUnobservable : Prop :=
  ∀ s t, s.Inv → t.Inv → s.SameLive t → SameLiveResult (step s) (step t)

/-- R217, R120, R121, R245: with a transport that has no move but those of its duty, a response going out never gets out of
step with it. The system takes the block's step exactly where the duty is kept. Its steps keep it that a TX_COMPLETE is owed throughout Transmitting and that every byte is answered
only once the whole response is handed over; so the transport always has a move there, TX_READY or TX_COMPLETE; a TX_READY
that it delivers emits the next byte or comes after the last; and a TX_COMPLETE that it delivers always releases the line.
A step that takes no move of the transport, and is no RESET and no POWER_ON, leaves the block in Transmitting with the line
driven: without TX_COMPLETE it is stuck there. The order of the last TX_READY and TX_COMPLETE is DEDUCED (log 18). -/
def Obligations.TransportStaysInStep : Prop :=
  ∀ x : System, x.block.Inv → x.inStep →
    (∀ s, x.block.transportDuty x.transport → step x.block = .next s → ∃ t, x.step = some { block := s, transport := t }) ∧
    (¬ x.block.transportDuty x.transport → x.step = none) ∧
    (∀ y, x.step = some y → y.inStep) ∧
    (x.block.state = .transmitting →
      ((x.transport.deliver .txReady).isSome = true ∨ (x.transport.deliver .txComplete).isSome = true) ∧
      ((x.transport.deliver .txComplete).isSome = true →
        ∃ t, exec .txComplete x.block = .next t ∧ t.isFrameResetOf x.block) ∧
      ∀ i t, exec i x.block = .next t → i ≠ .txComplete → i ≠ .reset → i ≠ .powerOn →
        t.state = .transmitting ∧ t.lineTx = true)
end

