-- ==== Sys2Proof/Laws/Memory.lean ====
section
/-! SUPPORT. The laws of a frame buffer: a read after a write, consecutive bytes, and that every operation keeps the
canonical form. -/

namespace Sys2Proof.Machine.Memory

@[simp] theorem read_nil (a : Nat) : read [] a = unwritten := rfl

theorem read_cons (k : Nat) (b : Byte) (rest : Memory) (a : Nat) :
    read ((k, b) :: rest) a = if a = k then b else read rest a := rfl

/-- Below the first offset of a canonical list nothing is written. -/
theorem read_of_lt {lo a : Nat} {m : Memory} (h : canonicalFrom lo m = true) (ha : a < lo) : read m a = unwritten := by
  induction m generalizing lo with
  | nil => rfl
  | cons cell rest ih =>
    obtain ⟨k, b⟩ := cell
    simp only [canonicalFrom, Bool.and_eq_true, decide_eq_true_eq] at h
    have hk : a ≠ k := by omega
    simp only [read_cons, hk, if_false]
    exact ih h.2 (by omega)

theorem canonicalFrom_mono {lo lo' : Nat} {m : Memory} (h : canonicalFrom lo m = true) (hl : lo' ≤ lo) :
    canonicalFrom lo' m = true := by
  cases m with
  | nil => rfl
  | cons cell rest =>
    obtain ⟨k, b⟩ := cell
    simp only [canonicalFrom, Bool.and_eq_true, decide_eq_true_eq] at h ⊢
    exact ⟨⟨⟨by omega, h.1.1.2⟩, h.1.2⟩, h.2⟩

theorem cons_canonical {lo a : Nat} {b : Byte} {rest : Memory} (hlo : lo ≤ a) (ha : a < cap)
    (h : canonicalFrom (a + 1) rest = true) : canonicalFrom lo (cons a b rest) = true := by
  unfold Memory.cons
  split
  · exact canonicalFrom_mono h (by omega)
  · next hb => simp [canonicalFrom, hlo, ha, h, hb]

theorem write_canonicalFrom {lo a : Nat} {b : Byte} {m : Memory} (h : canonicalFrom lo m = true) (hlo : lo ≤ a)
    (ha : a < cap) : canonicalFrom lo (m.write a b) = true := by
  induction m generalizing lo with
  | nil => exact cons_canonical hlo ha rfl
  | cons cell rest ih =>
    obtain ⟨k, c⟩ := cell
    simp only [canonicalFrom, Bool.and_eq_true, decide_eq_true_eq] at h
    unfold Memory.write
    split
    · refine cons_canonical hlo ha ?_
      simp only [canonicalFrom, Bool.and_eq_true, decide_eq_true_eq]
      exact ⟨⟨⟨by omega, h.1.1.2⟩, h.1.2⟩, h.2⟩
    · split
      · next hk => subst hk; exact cons_canonical hlo ha h.2
      · simp only [canonicalFrom, Bool.and_eq_true, decide_eq_true_eq]
        exact ⟨h.1, ih h.2 (by omega)⟩

/-- Writing a byte of the buffer keeps the canonical form. -/
theorem write_wf {m : Memory} (h : m.wf = true) {a : Nat} (ha : a < cap) (b : Byte) : (m.write a b).wf = true :=
  write_canonicalFrom h (Nat.zero_le a) ha

theorem read_cons_op {lo a : Nat} {b : Byte} {rest : Memory} (h : canonicalFrom (a + 1) rest = true) (x : Nat)
    (_ : lo ≤ a) : read (cons a b rest) x = if x = a then b else read rest x := by
  unfold Memory.cons
  split
  · next hb =>
    split
    · next hx => subst hx; rw [hb]; exact read_of_lt h (by omega)
    · rfl
  · exact read_cons a b rest x

theorem read_write_canonicalFrom {lo : Nat} {m : Memory} (h : canonicalFrom lo m = true) {a : Nat} (b : Byte) (x : Nat) :
    (m.write a b).read x = if x = a then b else m.read x := by
  induction m generalizing lo with
  | nil => exact read_cons_op (lo := 0) rfl x (Nat.zero_le a)
  | cons cell rest ih =>
    obtain ⟨k, c⟩ := cell
    simp only [canonicalFrom, Bool.and_eq_true, decide_eq_true_eq] at h
    unfold Memory.write
    split
    · refine read_cons_op (lo := 0) ?_ x (Nat.zero_le a)
      simp only [canonicalFrom, Bool.and_eq_true, decide_eq_true_eq]
      exact ⟨⟨⟨by omega, h.1.1.2⟩, h.1.2⟩, h.2⟩
    · split
      · next hk =>
        subst hk
        rw [read_cons_op (lo := 0) h.2 x (Nat.zero_le a), read_cons]
        split <;> rfl
      · next hka hk =>
        rw [read_cons, read_cons, ih h.2]
        split
        · next hx => subst hx; simp [Ne.symm hk]
        · rfl

/-- A read after a write: the byte written at that offset, every other byte as before. -/
theorem read_write {m : Memory} (h : m.wf = true) (a : Nat) (b : Byte) (x : Nat) :
    (m.write a b).read x = if x = a then b else m.read x :=
  read_write_canonicalFrom h b x

/-- Writing consecutive bytes inside the buffer keeps the canonical form. -/
theorem writeList_wf {m : Memory} (h : m.wf = true) {a : Nat} {bytes : List Byte} (ha : a + bytes.length ≤ cap) :
    (m.writeList a bytes).wf = true := by
  induction bytes generalizing m a with
  | nil => exact h
  | cons b bs ih =>
    simp only [List.length_cons] at ha
    exact ih (write_wf h (by omega) b) (by omega)

/-- A read after consecutive writes inside the buffer. -/
theorem read_writeList {m : Memory} (h : m.wf = true) {a : Nat} {bytes : List Byte} (ha : a + bytes.length ≤ cap)
    (x : Nat) :
    (m.writeList a bytes).read x = if a ≤ x ∧ x < a + bytes.length then bytes.getD (x - a) 0 else m.read x := by
  induction bytes generalizing m a with
  | nil => simp [writeList]
  | cons b bs ih =>
    simp only [List.length_cons] at ha ⊢
    rw [writeList, ih (write_wf h (by omega) b) (by omega), read_write h]
    by_cases hx : x = a
    · subst hx; simp
    · by_cases hr : a + 1 ≤ x ∧ x < a + 1 + bs.length
      · obtain ⟨d, rfl⟩ : ∃ d, x = a + 1 + d := ⟨x - (a + 1), by omega⟩
        have hc : a ≤ a + 1 + d ∧ a + 1 + d < a + (bs.length + 1) := by omega
        rw [if_pos hr, if_pos hc, show a + 1 + d - (a + 1) = d by omega, show a + 1 + d - a = d + 1 by omega]
        rfl
      · rw [if_neg hr, if_neg hx, if_neg (by omega)]

/-- A buffer made of at most CAP bytes is canonical. -/
theorem ofBytes_wf {bytes : List Byte} (h : bytes.length ≤ cap) : (ofBytes bytes).wf = true :=
  writeList_wf rfl (by omega)

@[simp] theorem length_bytes (m : Memory) (a n : Nat) : (m.bytes a n).length = n := by
  induction n generalizing a with
  | zero => rfl
  | succ n ih => simp [bytes, ih]

/-- The k-th of consecutive bytes. -/
theorem getD_bytes (m : Memory) (a n k : Nat) (hk : k < n) : (m.bytes a n).getD k 0 = m.read (a + k) := by
  induction n generalizing a k with
  | zero => omega
  | succ n ih =>
    cases k with
    | zero => rfl
    | succ k =>
      rw [bytes, List.getD_cons_succ, ih (a + 1) k (by omega)]
      congr 1; omega

/-- Consecutive bytes depend on their own offsets alone. -/
theorem bytes_congr {m m' : Memory} {a n : Nat} (h : ∀ k, k < n → m.read (a + k) = m'.read (a + k)) :
    m.bytes a n = m'.bytes a n := by
  induction n generalizing a with
  | zero => rfl
  | succ n ih =>
    have h0 : m.read a = m'.read a := h 0 (by omega)
    rw [bytes, bytes, h0]
    congr 1
    exact ih fun k hk => by simpa [Nat.add_assoc, Nat.add_comm 1 k] using h (k + 1) (by omega)

/-- Bytes just written read back. -/
theorem bytes_writeList {m : Memory} (h : m.wf = true) {a : Nat} {bytes : List Byte} (ha : a + bytes.length ≤ cap) :
    (m.writeList a bytes).bytes a bytes.length = bytes := by
  apply List.ext_getElem (by simp)
  intro k hk hk'
  have := getD_bytes (m.writeList a bytes) a bytes.length k hk'
  rw [read_writeList h ha, if_pos (by omega), show a + k - a = k by omega] at this
  simpa [List.getD_eq_getElem?_getD, List.getElem?_eq_getElem hk', List.getElem?_eq_getElem hk] using this

end Sys2Proof.Machine.Memory
end

