-- ==== Sys2Proof/Laws/Operands.lean ====
section
/-! SUPPORT. The byte order of words and frame fields, and the small facts of the CRC generator. -/

namespace Sys2Proof

/-- a ∥ b is a·256 + b (R8). -/
theorem toNat_join (a b : Byte) : (join a b).toNat = a.toNat * 256 + b.toNat := by
  have h : (a ++ b : BitVec (8 + 8)).toNat = a.toNat <<< 8 ||| b.toNat := BitVec.toNat_append a b
  have hs := Nat.shiftLeft_add_eq_or_of_lt b.isLt a.toNat
  rw [← hs, Nat.shiftLeft_eq] at h
  exact h

/-- hi(w) is w / 256 (R8). -/
theorem toNat_hi (w : Word) : (hi w).toNat = w.toNat / 256 := by
  have := w.isLt
  simp only [hi, BitVec.extractLsb'_toNat, Nat.shiftRight_eq_div_pow]
  omega

/-- lo(w) is w mod 256 (R8). -/
theorem toNat_lo (w : Word) : (lo w).toNat = w.toNat % 256 := by
  simp [lo, BitVec.extractLsb'_toNat]

@[simp] theorem hi_join (a b : Byte) : hi (join a b) = a := by
  apply BitVec.eq_of_toNat_eq
  rw [toNat_hi, toNat_join]
  omega

@[simp] theorem lo_join (a b : Byte) : lo (join a b) = b := by
  apply BitVec.eq_of_toNat_eq
  rw [toNat_lo, toNat_join]
  omega

@[simp] theorem join_hi_lo (w : Word) : join (hi w) (lo w) = w := by
  apply BitVec.eq_of_toNat_eq
  rw [toNat_join, toNat_hi, toNat_lo]
  omega

/-! ### The fields of an event word (R70) -/

theorem toNat_eventWord (kind : BitVec 4) (index : LoopIndex) (data : Word) :
    (eventWord kind index data).toNat = kind.toNat * 2 ^ 28 + index.toNat * 2 ^ 16 + data.toNat := by
  have h1 : (kind ++ index : BitVec (4 + 12)).toNat = kind.toNat <<< 12 ||| index.toNat := BitVec.toNat_append kind index
  have s1 := Nat.shiftLeft_add_eq_or_of_lt index.isLt kind.toNat
  have h2 : ((kind ++ index) ++ data : BitVec (4 + 12 + 16)).toNat = (kind ++ index).toNat <<< 16 ||| data.toNat :=
    BitVec.toNat_append (kind ++ index) data
  have s2 := Nat.shiftLeft_add_eq_or_of_lt data.isLt (kind ++ index).toNat
  rw [← s1] at h1
  rw [← s2, h1] at h2
  have h3 : (eventWord kind index data).toNat = ((kind ++ index) ++ data : BitVec (4 + 12 + 16)).toNat := rfl
  rw [h3, h2]
  simp only [Nat.shiftLeft_eq]
  omega

@[simp] theorem eventKind_eventWord (kind : BitVec 4) (index : LoopIndex) (data : Word) :
    eventKind (eventWord kind index data) = kind := by
  apply BitVec.eq_of_toNat_eq
  have := kind.isLt; have := index.isLt; have := data.isLt
  simp only [eventKind, BitVec.extractLsb'_toNat, toNat_eventWord, Nat.shiftRight_eq_div_pow]
  omega

@[simp] theorem eventIndex_eventWord (kind : BitVec 4) (index : LoopIndex) (data : Word) :
    eventIndex (eventWord kind index data) = index := by
  apply BitVec.eq_of_toNat_eq
  have := kind.isLt; have := index.isLt; have := data.isLt
  simp only [eventIndex, BitVec.extractLsb'_toNat, toNat_eventWord, Nat.shiftRight_eq_div_pow]
  omega

@[simp] theorem eventData_eventWord (kind : BitVec 4) (index : LoopIndex) (data : Word) :
    eventData (eventWord kind index data) = data := by
  apply BitVec.eq_of_toNat_eq
  have := kind.isLt; have := index.isLt; have := data.isLt
  simp only [eventData, BitVec.extractLsb'_toNat, toNat_eventWord, Nat.shiftRight_eq_div_pow]
  omega

/-- An event word is its three fields. -/
@[simp] theorem eventWord_fields (w : EventWord) : eventWord (eventKind w) (eventIndex w) (eventData w) = w := by
  apply BitVec.eq_of_toNat_eq
  have := w.isLt
  simp only [toNat_eventWord, eventKind, eventIndex, eventData, BitVec.extractLsb'_toNat, Nat.shiftRight_eq_div_pow]
  omega

@[simp] theorem length_wordBytes (ws : List Word) : (wordBytes ws).length = 2 * ws.length := by
  induction ws with
  | nil => rfl
  | cons w ws ih => simp [wordBytes, ih]; omega

@[simp] theorem length_wordsAt (frame : List Byte) (k n : Nat) : (wordsAt frame k n).length = n := by
  induction n generalizing k with
  | zero => rfl
  | succ n ih => simp [wordsAt, ih]

@[simp] theorem length_withCrc (bytes : List Byte) : (withCrc bytes).length = bytes.length + 2 := by
  simp [withCrc]

@[simp] theorem crc16_nil : crc16 [] = 0xFFFF#16 := rfl

/-- One more byte is one more step of the generator (R100). -/
theorem crc16_append_byte (bytes : List Byte) (b : Byte) : crc16 (bytes ++ [b]) = crcByte (crc16 bytes) b := by
  simp [crc16, List.foldl_append]

/-- A byte of a frame past its length reads 00; a byte inside is the frame's. -/
theorem byteAt_append_left (xs ys : List Byte) (k : Nat) (h : k < xs.length) : byteAt (xs ++ ys) k = byteAt xs k := by
  simp [byteAt, List.getD_eq_getElem?_getD, List.getElem?_append_left h]

theorem byteAt_append_right (xs ys : List Byte) (k : Nat) : byteAt (xs ++ ys) (xs.length + k) = byteAt ys k := by
  simp [byteAt, List.getD_eq_getElem?_getD, List.getElem?_append_right]

end Sys2Proof
end

