-- ==== Sys2Proof/Laws/State.lean ====
section
/-! SUPPORT. One lemma per field and per state update of Flags, Ops and Transmit: what the field is after the update. -/

namespace Sys2Proof.Machine

variable (s : State)

/-! ### enableReceive -/

@[simp] theorem State.enableReceive_regs : s.enableReceive.regs = s.regs := rfl
@[simp] theorem State.enableReceive_devaddr : s.enableReceive.devaddr = s.devaddr := rfl
@[simp] theorem State.enableReceive_state : s.enableReceive.state = s.state := rfl
@[simp] theorem State.enableReceive_rxbuf : s.enableReceive.rxbuf = s.rxbuf := rfl
@[simp] theorem State.enableReceive_rxcur : s.enableReceive.rxcur = s.rxcur := rfl
@[simp] theorem State.enableReceive_explen : s.enableReceive.explen = s.explen := rfl
@[simp] theorem State.enableReceive_txbuf : s.enableReceive.txbuf = s.txbuf := rfl
@[simp] theorem State.enableReceive_txcur : s.enableReceive.txcur = s.txcur := rfl
@[simp] theorem State.enableReceive_txlen : s.enableReceive.txlen = s.txlen := rfl
@[simp] theorem State.enableReceive_tmrEn : s.enableReceive.tmrEn = s.tmrEn := rfl
@[simp] theorem State.enableReceive_tmrCount : s.enableReceive.tmrCount = s.tmrCount := rfl
@[simp] theorem State.enableReceive_tmrTarget : s.enableReceive.tmrTarget = s.tmrTarget := rfl
@[simp] theorem State.enableReceive_lineTx : s.enableReceive.lineTx = false := rfl
@[simp] theorem State.enableReceive_params : s.enableReceive.params = s.params := rfl
@[simp] theorem State.enableReceive_wordsDone : s.enableReceive.wordsDone = s.wordsDone := rfl
@[simp] theorem State.enableReceive_input : s.enableReceive.input = s.input := rfl
@[simp] theorem State.enableReceive_outputs : s.enableReceive.outputs = s.outputs := rfl
@[simp] theorem State.enableReceive_draws : s.enableReceive.draws = s.draws := rfl

/-! ### enableTransmit -/

@[simp] theorem State.enableTransmit_regs : s.enableTransmit.regs = s.regs := rfl
@[simp] theorem State.enableTransmit_devaddr : s.enableTransmit.devaddr = s.devaddr := rfl
@[simp] theorem State.enableTransmit_state : s.enableTransmit.state = s.state := rfl
@[simp] theorem State.enableTransmit_rxbuf : s.enableTransmit.rxbuf = s.rxbuf := rfl
@[simp] theorem State.enableTransmit_rxcur : s.enableTransmit.rxcur = s.rxcur := rfl
@[simp] theorem State.enableTransmit_explen : s.enableTransmit.explen = s.explen := rfl
@[simp] theorem State.enableTransmit_txbuf : s.enableTransmit.txbuf = s.txbuf := rfl
@[simp] theorem State.enableTransmit_txcur : s.enableTransmit.txcur = s.txcur := rfl
@[simp] theorem State.enableTransmit_txlen : s.enableTransmit.txlen = s.txlen := rfl
@[simp] theorem State.enableTransmit_tmrEn : s.enableTransmit.tmrEn = s.tmrEn := rfl
@[simp] theorem State.enableTransmit_tmrCount : s.enableTransmit.tmrCount = s.tmrCount := rfl
@[simp] theorem State.enableTransmit_tmrTarget : s.enableTransmit.tmrTarget = s.tmrTarget := rfl
@[simp] theorem State.enableTransmit_lineTx : s.enableTransmit.lineTx = true := rfl
@[simp] theorem State.enableTransmit_params : s.enableTransmit.params = s.params := rfl
@[simp] theorem State.enableTransmit_wordsDone : s.enableTransmit.wordsDone = s.wordsDone := rfl
@[simp] theorem State.enableTransmit_input : s.enableTransmit.input = s.input := rfl
@[simp] theorem State.enableTransmit_outputs : s.enableTransmit.outputs = s.outputs := rfl
@[simp] theorem State.enableTransmit_draws : s.enableTransmit.draws = s.draws := rfl

/-! ### timerArm -/

@[simp] theorem State.timerArm_regs (t : BitVec 16) : (s.timerArm t).regs = s.regs := rfl
@[simp] theorem State.timerArm_devaddr (t : BitVec 16) : (s.timerArm t).devaddr = s.devaddr := rfl
@[simp] theorem State.timerArm_state (t : BitVec 16) : (s.timerArm t).state = s.state := rfl
@[simp] theorem State.timerArm_rxbuf (t : BitVec 16) : (s.timerArm t).rxbuf = s.rxbuf := rfl
@[simp] theorem State.timerArm_rxcur (t : BitVec 16) : (s.timerArm t).rxcur = s.rxcur := rfl
@[simp] theorem State.timerArm_explen (t : BitVec 16) : (s.timerArm t).explen = s.explen := rfl
@[simp] theorem State.timerArm_txbuf (t : BitVec 16) : (s.timerArm t).txbuf = s.txbuf := rfl
@[simp] theorem State.timerArm_txcur (t : BitVec 16) : (s.timerArm t).txcur = s.txcur := rfl
@[simp] theorem State.timerArm_txlen (t : BitVec 16) : (s.timerArm t).txlen = s.txlen := rfl
@[simp] theorem State.timerArm_tmrEn (t : BitVec 16) : (s.timerArm t).tmrEn = true := rfl
@[simp] theorem State.timerArm_tmrCount (t : BitVec 16) : (s.timerArm t).tmrCount = 0 := rfl
@[simp] theorem State.timerArm_tmrTarget (t : BitVec 16) : (s.timerArm t).tmrTarget = t := rfl
@[simp] theorem State.timerArm_lineTx (t : BitVec 16) : (s.timerArm t).lineTx = s.lineTx := rfl
@[simp] theorem State.timerArm_params (t : BitVec 16) : (s.timerArm t).params = s.params := rfl
@[simp] theorem State.timerArm_wordsDone (t : BitVec 16) : (s.timerArm t).wordsDone = s.wordsDone := rfl
@[simp] theorem State.timerArm_input (t : BitVec 16) : (s.timerArm t).input = s.input := rfl
@[simp] theorem State.timerArm_outputs (t : BitVec 16) : (s.timerArm t).outputs = s.outputs := rfl
@[simp] theorem State.timerArm_draws (t : BitVec 16) : (s.timerArm t).draws = s.draws := rfl

/-! ### timerRestart -/

@[simp] theorem State.timerRestart_regs : s.timerRestart.regs = s.regs := rfl
@[simp] theorem State.timerRestart_devaddr : s.timerRestart.devaddr = s.devaddr := rfl
@[simp] theorem State.timerRestart_state : s.timerRestart.state = s.state := rfl
@[simp] theorem State.timerRestart_rxbuf : s.timerRestart.rxbuf = s.rxbuf := rfl
@[simp] theorem State.timerRestart_rxcur : s.timerRestart.rxcur = s.rxcur := rfl
@[simp] theorem State.timerRestart_explen : s.timerRestart.explen = s.explen := rfl
@[simp] theorem State.timerRestart_txbuf : s.timerRestart.txbuf = s.txbuf := rfl
@[simp] theorem State.timerRestart_txcur : s.timerRestart.txcur = s.txcur := rfl
@[simp] theorem State.timerRestart_txlen : s.timerRestart.txlen = s.txlen := rfl
@[simp] theorem State.timerRestart_tmrEn : s.timerRestart.tmrEn = s.tmrEn := rfl
@[simp] theorem State.timerRestart_tmrCount : s.timerRestart.tmrCount = 0 := rfl
@[simp] theorem State.timerRestart_tmrTarget : s.timerRestart.tmrTarget = s.tmrTarget := rfl
@[simp] theorem State.timerRestart_lineTx : s.timerRestart.lineTx = s.lineTx := rfl
@[simp] theorem State.timerRestart_params : s.timerRestart.params = s.params := rfl
@[simp] theorem State.timerRestart_wordsDone : s.timerRestart.wordsDone = s.wordsDone := rfl
@[simp] theorem State.timerRestart_input : s.timerRestart.input = s.input := rfl
@[simp] theorem State.timerRestart_outputs : s.timerRestart.outputs = s.outputs := rfl
@[simp] theorem State.timerRestart_draws : s.timerRestart.draws = s.draws := rfl

/-! ### timerDisarm -/

@[simp] theorem State.timerDisarm_regs : s.timerDisarm.regs = s.regs := rfl
@[simp] theorem State.timerDisarm_devaddr : s.timerDisarm.devaddr = s.devaddr := rfl
@[simp] theorem State.timerDisarm_state : s.timerDisarm.state = s.state := rfl
@[simp] theorem State.timerDisarm_rxbuf : s.timerDisarm.rxbuf = s.rxbuf := rfl
@[simp] theorem State.timerDisarm_rxcur : s.timerDisarm.rxcur = s.rxcur := rfl
@[simp] theorem State.timerDisarm_explen : s.timerDisarm.explen = s.explen := rfl
@[simp] theorem State.timerDisarm_txbuf : s.timerDisarm.txbuf = s.txbuf := rfl
@[simp] theorem State.timerDisarm_txcur : s.timerDisarm.txcur = s.txcur := rfl
@[simp] theorem State.timerDisarm_txlen : s.timerDisarm.txlen = s.txlen := rfl
@[simp] theorem State.timerDisarm_tmrEn : s.timerDisarm.tmrEn = false := rfl
@[simp] theorem State.timerDisarm_tmrCount : s.timerDisarm.tmrCount = s.tmrCount := rfl
@[simp] theorem State.timerDisarm_tmrTarget : s.timerDisarm.tmrTarget = s.tmrTarget := rfl
@[simp] theorem State.timerDisarm_lineTx : s.timerDisarm.lineTx = s.lineTx := rfl
@[simp] theorem State.timerDisarm_params : s.timerDisarm.params = s.params := rfl
@[simp] theorem State.timerDisarm_wordsDone : s.timerDisarm.wordsDone = s.wordsDone := rfl
@[simp] theorem State.timerDisarm_input : s.timerDisarm.input = s.input := rfl
@[simp] theorem State.timerDisarm_outputs : s.timerDisarm.outputs = s.outputs := rfl
@[simp] theorem State.timerDisarm_draws : s.timerDisarm.draws = s.draws := rfl

/-! ### timerCount -/

@[simp] theorem State.timerCount_regs : s.timerCount.regs = s.regs := rfl
@[simp] theorem State.timerCount_devaddr : s.timerCount.devaddr = s.devaddr := rfl
@[simp] theorem State.timerCount_state : s.timerCount.state = s.state := rfl
@[simp] theorem State.timerCount_rxbuf : s.timerCount.rxbuf = s.rxbuf := rfl
@[simp] theorem State.timerCount_rxcur : s.timerCount.rxcur = s.rxcur := rfl
@[simp] theorem State.timerCount_explen : s.timerCount.explen = s.explen := rfl
@[simp] theorem State.timerCount_txbuf : s.timerCount.txbuf = s.txbuf := rfl
@[simp] theorem State.timerCount_txcur : s.timerCount.txcur = s.txcur := rfl
@[simp] theorem State.timerCount_txlen : s.timerCount.txlen = s.txlen := rfl
@[simp] theorem State.timerCount_tmrEn : s.timerCount.tmrEn = s.tmrEn := rfl
@[simp] theorem State.timerCount_tmrCount : s.timerCount.tmrCount = s.tmrCount + 1 := rfl
@[simp] theorem State.timerCount_tmrTarget : s.timerCount.tmrTarget = s.tmrTarget := rfl
@[simp] theorem State.timerCount_lineTx : s.timerCount.lineTx = s.lineTx := rfl
@[simp] theorem State.timerCount_params : s.timerCount.params = s.params := rfl
@[simp] theorem State.timerCount_wordsDone : s.timerCount.wordsDone = s.wordsDone := rfl
@[simp] theorem State.timerCount_input : s.timerCount.input = s.input := rfl
@[simp] theorem State.timerCount_outputs : s.timerCount.outputs = s.outputs := rfl
@[simp] theorem State.timerCount_draws : s.timerCount.draws = s.draws := rfl

/-! ### setReg -/

@[simp] theorem State.setReg_regs (i : Nat) (v : Word) : (s.setReg i v).regs = s.regs.set i v := rfl
@[simp] theorem State.setReg_devaddr (i : Nat) (v : Word) : (s.setReg i v).devaddr = s.devaddr := rfl
@[simp] theorem State.setReg_state (i : Nat) (v : Word) : (s.setReg i v).state = s.state := rfl
@[simp] theorem State.setReg_rxbuf (i : Nat) (v : Word) : (s.setReg i v).rxbuf = s.rxbuf := rfl
@[simp] theorem State.setReg_rxcur (i : Nat) (v : Word) : (s.setReg i v).rxcur = s.rxcur := rfl
@[simp] theorem State.setReg_explen (i : Nat) (v : Word) : (s.setReg i v).explen = s.explen := rfl
@[simp] theorem State.setReg_txbuf (i : Nat) (v : Word) : (s.setReg i v).txbuf = s.txbuf := rfl
@[simp] theorem State.setReg_txcur (i : Nat) (v : Word) : (s.setReg i v).txcur = s.txcur := rfl
@[simp] theorem State.setReg_txlen (i : Nat) (v : Word) : (s.setReg i v).txlen = s.txlen := rfl
@[simp] theorem State.setReg_tmrEn (i : Nat) (v : Word) : (s.setReg i v).tmrEn = s.tmrEn := rfl
@[simp] theorem State.setReg_tmrCount (i : Nat) (v : Word) : (s.setReg i v).tmrCount = s.tmrCount := rfl
@[simp] theorem State.setReg_tmrTarget (i : Nat) (v : Word) : (s.setReg i v).tmrTarget = s.tmrTarget := rfl
@[simp] theorem State.setReg_lineTx (i : Nat) (v : Word) : (s.setReg i v).lineTx = s.lineTx := rfl
@[simp] theorem State.setReg_params (i : Nat) (v : Word) : (s.setReg i v).params = s.params := rfl
@[simp] theorem State.setReg_wordsDone (i : Nat) (v : Word) : (s.setReg i v).wordsDone = s.wordsDone := rfl
@[simp] theorem State.setReg_input (i : Nat) (v : Word) : (s.setReg i v).input = s.input := rfl
@[simp] theorem State.setReg_outputs (i : Nat) (v : Word) : (s.setReg i v).outputs = s.outputs := rfl
@[simp] theorem State.setReg_draws (i : Nat) (v : Word) : (s.setReg i v).draws = s.draws := rfl

/-! ### emit -/

@[simp] theorem State.emit_regs (o : Output) : (s.emit o).regs = s.regs := rfl
@[simp] theorem State.emit_devaddr (o : Output) : (s.emit o).devaddr = s.devaddr := rfl
@[simp] theorem State.emit_state (o : Output) : (s.emit o).state = s.state := rfl
@[simp] theorem State.emit_rxbuf (o : Output) : (s.emit o).rxbuf = s.rxbuf := rfl
@[simp] theorem State.emit_rxcur (o : Output) : (s.emit o).rxcur = s.rxcur := rfl
@[simp] theorem State.emit_explen (o : Output) : (s.emit o).explen = s.explen := rfl
@[simp] theorem State.emit_txbuf (o : Output) : (s.emit o).txbuf = s.txbuf := rfl
@[simp] theorem State.emit_txcur (o : Output) : (s.emit o).txcur = s.txcur := rfl
@[simp] theorem State.emit_txlen (o : Output) : (s.emit o).txlen = s.txlen := rfl
@[simp] theorem State.emit_tmrEn (o : Output) : (s.emit o).tmrEn = s.tmrEn := rfl
@[simp] theorem State.emit_tmrCount (o : Output) : (s.emit o).tmrCount = s.tmrCount := rfl
@[simp] theorem State.emit_tmrTarget (o : Output) : (s.emit o).tmrTarget = s.tmrTarget := rfl
@[simp] theorem State.emit_lineTx (o : Output) : (s.emit o).lineTx = s.lineTx := rfl
@[simp] theorem State.emit_params (o : Output) : (s.emit o).params = s.params := rfl
@[simp] theorem State.emit_wordsDone (o : Output) : (s.emit o).wordsDone = s.wordsDone := rfl
@[simp] theorem State.emit_input (o : Output) : (s.emit o).input = s.input := rfl
@[simp] theorem State.emit_outputs (o : Output) : (s.emit o).outputs = s.outputs ++ [o] := rfl
@[simp] theorem State.emit_draws (o : Output) : (s.emit o).draws = s.draws := rfl

/-! ### frameReset -/

@[simp] theorem State.frameReset_regs : s.frameReset.regs = s.regs := rfl
@[simp] theorem State.frameReset_devaddr : s.frameReset.devaddr = s.devaddr := rfl
@[simp] theorem State.frameReset_state : s.frameReset.state = .idle := rfl
@[simp] theorem State.frameReset_rxbuf : s.frameReset.rxbuf = s.rxbuf := rfl
@[simp] theorem State.frameReset_rxcur : s.frameReset.rxcur = 0 := rfl
@[simp] theorem State.frameReset_explen : s.frameReset.explen = 6 := rfl
@[simp] theorem State.frameReset_txbuf : s.frameReset.txbuf = s.txbuf := rfl
@[simp] theorem State.frameReset_txcur : s.frameReset.txcur = 0 := rfl
@[simp] theorem State.frameReset_txlen : s.frameReset.txlen = 0 := rfl
@[simp] theorem State.frameReset_tmrEn : s.frameReset.tmrEn = false := rfl
@[simp] theorem State.frameReset_tmrCount : s.frameReset.tmrCount = 0 := rfl
@[simp] theorem State.frameReset_tmrTarget : s.frameReset.tmrTarget = 0 := rfl
@[simp] theorem State.frameReset_lineTx : s.frameReset.lineTx = false := rfl
@[simp] theorem State.frameReset_params : s.frameReset.params = s.params := rfl
@[simp] theorem State.frameReset_wordsDone : s.frameReset.wordsDone = none := rfl
@[simp] theorem State.frameReset_input : s.frameReset.input = s.input := rfl
@[simp] theorem State.frameReset_outputs : s.frameReset.outputs = s.outputs := rfl
@[simp] theorem State.frameReset_draws : s.frameReset.draws = s.draws := rfl

/-! ### putTx -/

@[simp] theorem State.putTx_regs (a : Nat) (bytes : List Byte) : (s.putTx a bytes).regs = s.regs := rfl
@[simp] theorem State.putTx_devaddr (a : Nat) (bytes : List Byte) : (s.putTx a bytes).devaddr = s.devaddr := rfl
@[simp] theorem State.putTx_state (a : Nat) (bytes : List Byte) : (s.putTx a bytes).state = s.state := rfl
@[simp] theorem State.putTx_rxbuf (a : Nat) (bytes : List Byte) : (s.putTx a bytes).rxbuf = s.rxbuf := rfl
@[simp] theorem State.putTx_rxcur (a : Nat) (bytes : List Byte) : (s.putTx a bytes).rxcur = s.rxcur := rfl
@[simp] theorem State.putTx_explen (a : Nat) (bytes : List Byte) : (s.putTx a bytes).explen = s.explen := rfl
@[simp] theorem State.putTx_txbuf (a : Nat) (bytes : List Byte) : (s.putTx a bytes).txbuf = s.txbuf.writeList a bytes := rfl
@[simp] theorem State.putTx_txcur (a : Nat) (bytes : List Byte) : (s.putTx a bytes).txcur = s.txcur := rfl
@[simp] theorem State.putTx_txlen (a : Nat) (bytes : List Byte) : (s.putTx a bytes).txlen = s.txlen := rfl
@[simp] theorem State.putTx_tmrEn (a : Nat) (bytes : List Byte) : (s.putTx a bytes).tmrEn = s.tmrEn := rfl
@[simp] theorem State.putTx_tmrCount (a : Nat) (bytes : List Byte) : (s.putTx a bytes).tmrCount = s.tmrCount := rfl
@[simp] theorem State.putTx_tmrTarget (a : Nat) (bytes : List Byte) : (s.putTx a bytes).tmrTarget = s.tmrTarget := rfl
@[simp] theorem State.putTx_lineTx (a : Nat) (bytes : List Byte) : (s.putTx a bytes).lineTx = s.lineTx := rfl
@[simp] theorem State.putTx_params (a : Nat) (bytes : List Byte) : (s.putTx a bytes).params = s.params := rfl
@[simp] theorem State.putTx_wordsDone (a : Nat) (bytes : List Byte) : (s.putTx a bytes).wordsDone = s.wordsDone := rfl
@[simp] theorem State.putTx_input (a : Nat) (bytes : List Byte) : (s.putTx a bytes).input = s.input := rfl
@[simp] theorem State.putTx_outputs (a : Nat) (bytes : List Byte) : (s.putTx a bytes).outputs = s.outputs := rfl
@[simp] theorem State.putTx_draws (a : Nat) (bytes : List Byte) : (s.putTx a bytes).draws = s.draws := rfl

/-! ### appendCrc -/

@[simp] theorem State.appendCrc_regs (m : Nat) : (s.appendCrc m).regs = s.regs := rfl
@[simp] theorem State.appendCrc_devaddr (m : Nat) : (s.appendCrc m).devaddr = s.devaddr := rfl
@[simp] theorem State.appendCrc_state (m : Nat) : (s.appendCrc m).state = s.state := rfl
@[simp] theorem State.appendCrc_rxbuf (m : Nat) : (s.appendCrc m).rxbuf = s.rxbuf := rfl
@[simp] theorem State.appendCrc_rxcur (m : Nat) : (s.appendCrc m).rxcur = s.rxcur := rfl
@[simp] theorem State.appendCrc_explen (m : Nat) : (s.appendCrc m).explen = s.explen := rfl
@[simp] theorem State.appendCrc_txbuf (m : Nat) : (s.appendCrc m).txbuf = s.txbuf.writeList m [lo (crc16 (s.txbuf.bytes 0 m)), hi (crc16 (s.txbuf.bytes 0 m))] := rfl
@[simp] theorem State.appendCrc_txcur (m : Nat) : (s.appendCrc m).txcur = s.txcur := rfl
@[simp] theorem State.appendCrc_txlen (m : Nat) : (s.appendCrc m).txlen = BitVec.ofNat 8 (m + 2) := rfl
@[simp] theorem State.appendCrc_tmrEn (m : Nat) : (s.appendCrc m).tmrEn = s.tmrEn := rfl
@[simp] theorem State.appendCrc_tmrCount (m : Nat) : (s.appendCrc m).tmrCount = s.tmrCount := rfl
@[simp] theorem State.appendCrc_tmrTarget (m : Nat) : (s.appendCrc m).tmrTarget = s.tmrTarget := rfl
@[simp] theorem State.appendCrc_lineTx (m : Nat) : (s.appendCrc m).lineTx = s.lineTx := rfl
@[simp] theorem State.appendCrc_params (m : Nat) : (s.appendCrc m).params = s.params := rfl
@[simp] theorem State.appendCrc_wordsDone (m : Nat) : (s.appendCrc m).wordsDone = s.wordsDone := rfl
@[simp] theorem State.appendCrc_input (m : Nat) : (s.appendCrc m).input = s.input := rfl
@[simp] theorem State.appendCrc_outputs (m : Nat) : (s.appendCrc m).outputs = s.outputs := rfl
@[simp] theorem State.appendCrc_draws (m : Nat) : (s.appendCrc m).draws = s.draws := rfl

/-! ### handoff -/

@[simp] theorem State.handoff_regs : s.handoff.regs = s.regs := rfl
@[simp] theorem State.handoff_devaddr : s.handoff.devaddr = s.devaddr := rfl
@[simp] theorem State.handoff_state : s.handoff.state = .startingTransmission := rfl
@[simp] theorem State.handoff_rxbuf : s.handoff.rxbuf = s.rxbuf := rfl
@[simp] theorem State.handoff_rxcur : s.handoff.rxcur = s.rxcur := rfl
@[simp] theorem State.handoff_explen : s.handoff.explen = s.explen := rfl
@[simp] theorem State.handoff_txbuf : s.handoff.txbuf = s.txbuf := rfl
@[simp] theorem State.handoff_txcur : s.handoff.txcur = 0 := rfl
@[simp] theorem State.handoff_txlen : s.handoff.txlen = s.txlen := rfl
@[simp] theorem State.handoff_tmrEn : s.handoff.tmrEn = true := rfl
@[simp] theorem State.handoff_tmrCount : s.handoff.tmrCount = 0 := rfl
@[simp] theorem State.handoff_tmrTarget : s.handoff.tmrTarget = s.params.tTurn := rfl
@[simp] theorem State.handoff_lineTx : s.handoff.lineTx = s.lineTx := rfl
@[simp] theorem State.handoff_params : s.handoff.params = s.params := rfl
@[simp] theorem State.handoff_wordsDone : s.handoff.wordsDone = none := rfl
@[simp] theorem State.handoff_input : s.handoff.input = s.input := rfl
@[simp] theorem State.handoff_outputs : s.handoff.outputs = s.outputs := rfl
@[simp] theorem State.handoff_draws : s.handoff.draws = s.draws := rfl

/-! ### beginTx -/

@[simp] theorem State.beginTx_regs : s.beginTx.regs = s.regs := rfl
@[simp] theorem State.beginTx_devaddr : s.beginTx.devaddr = s.devaddr := rfl
@[simp] theorem State.beginTx_state : s.beginTx.state = .transmitting := rfl
@[simp] theorem State.beginTx_rxbuf : s.beginTx.rxbuf = s.rxbuf := rfl
@[simp] theorem State.beginTx_rxcur : s.beginTx.rxcur = s.rxcur := rfl
@[simp] theorem State.beginTx_explen : s.beginTx.explen = s.explen := rfl
@[simp] theorem State.beginTx_txbuf : s.beginTx.txbuf = s.txbuf := rfl
@[simp] theorem State.beginTx_txcur : s.beginTx.txcur = 1 := rfl
@[simp] theorem State.beginTx_txlen : s.beginTx.txlen = s.txlen := rfl
@[simp] theorem State.beginTx_tmrEn : s.beginTx.tmrEn = false := rfl
@[simp] theorem State.beginTx_tmrCount : s.beginTx.tmrCount = s.tmrCount := rfl
@[simp] theorem State.beginTx_tmrTarget : s.beginTx.tmrTarget = s.tmrTarget := rfl
@[simp] theorem State.beginTx_lineTx : s.beginTx.lineTx = true := rfl
@[simp] theorem State.beginTx_params : s.beginTx.params = s.params := rfl
@[simp] theorem State.beginTx_wordsDone : s.beginTx.wordsDone = s.wordsDone := rfl
@[simp] theorem State.beginTx_input : s.beginTx.input = s.input := rfl
@[simp] theorem State.beginTx_outputs : s.beginTx.outputs = s.outputs ++ [.txByte (s.txbuf.read 0)] := rfl
@[simp] theorem State.beginTx_draws : s.beginTx.draws = s.draws := rfl

/-! ### storeRx -/

@[simp] theorem State.storeRx_regs (b : Byte) : (s.storeRx b).regs = s.regs := by
  unfold State.storeRx; split <;> rfl

@[simp] theorem State.storeRx_devaddr (b : Byte) : (s.storeRx b).devaddr = s.devaddr := by
  unfold State.storeRx; split <;> rfl

@[simp] theorem State.storeRx_state (b : Byte) : (s.storeRx b).state = s.state := by
  unfold State.storeRx; split <;> rfl

@[simp] theorem State.storeRx_explen (b : Byte) : (s.storeRx b).explen = s.explen := by
  unfold State.storeRx; split <;> rfl

@[simp] theorem State.storeRx_txbuf (b : Byte) : (s.storeRx b).txbuf = s.txbuf := by
  unfold State.storeRx; split <;> rfl

@[simp] theorem State.storeRx_txcur (b : Byte) : (s.storeRx b).txcur = s.txcur := by
  unfold State.storeRx; split <;> rfl

@[simp] theorem State.storeRx_txlen (b : Byte) : (s.storeRx b).txlen = s.txlen := by
  unfold State.storeRx; split <;> rfl

@[simp] theorem State.storeRx_tmrEn (b : Byte) : (s.storeRx b).tmrEn = s.tmrEn := by
  unfold State.storeRx; split <;> rfl

@[simp] theorem State.storeRx_tmrCount (b : Byte) : (s.storeRx b).tmrCount = s.tmrCount := by
  unfold State.storeRx; split <;> rfl

@[simp] theorem State.storeRx_tmrTarget (b : Byte) : (s.storeRx b).tmrTarget = s.tmrTarget := by
  unfold State.storeRx; split <;> rfl

@[simp] theorem State.storeRx_lineTx (b : Byte) : (s.storeRx b).lineTx = s.lineTx := by
  unfold State.storeRx; split <;> rfl

@[simp] theorem State.storeRx_params (b : Byte) : (s.storeRx b).params = s.params := by
  unfold State.storeRx; split <;> rfl

@[simp] theorem State.storeRx_wordsDone (b : Byte) : (s.storeRx b).wordsDone = s.wordsDone := by
  unfold State.storeRx; split <;> rfl

@[simp] theorem State.storeRx_input (b : Byte) : (s.storeRx b).input = s.input := by
  unfold State.storeRx; split <;> rfl

@[simp] theorem State.storeRx_outputs (b : Byte) : (s.storeRx b).outputs = s.outputs := by
  unfold State.storeRx; split <;> rfl

@[simp] theorem State.storeRx_draws (b : Byte) : (s.storeRx b).draws = s.draws := by
  unfold State.storeRx; split <;> rfl

/-- store_rx below CAP stores the byte at the cursor (R111). -/
theorem State.storeRx_of_lt (b : Byte) (h : s.rxcur.toNat < cap) :
    s.storeRx b = { s with rxbuf := s.rxbuf.write s.rxcur.toNat b, rxcur := s.rxcur + 1 } := by
  simp [State.storeRx, h]

/-- store_rx at CAP drops the byte (R111). -/
theorem State.storeRx_of_full (b : Byte) (h : ¬ s.rxcur.toNat < cap) : s.storeRx b = s := by
  simp [State.storeRx, h]

/-! ### respond: the whole response build -/

@[simp] theorem State.respond_regs (payload : List Byte) : (s.respond payload).regs = s.regs := rfl
@[simp] theorem State.respond_devaddr (payload : List Byte) : (s.respond payload).devaddr = s.devaddr := rfl
@[simp] theorem State.respond_state (payload : List Byte) : (s.respond payload).state = .startingTransmission := rfl
@[simp] theorem State.respond_rxbuf (payload : List Byte) : (s.respond payload).rxbuf = s.rxbuf := rfl
@[simp] theorem State.respond_rxcur (payload : List Byte) : (s.respond payload).rxcur = s.rxcur := rfl
@[simp] theorem State.respond_explen (payload : List Byte) : (s.respond payload).explen = s.explen := rfl
@[simp] theorem State.respond_txcur (payload : List Byte) : (s.respond payload).txcur = 0 := rfl
@[simp] theorem State.respond_txlen (payload : List Byte) : (s.respond payload).txlen = BitVec.ofNat 8 (payload.length + 2) := rfl
@[simp] theorem State.respond_tmrEn (payload : List Byte) : (s.respond payload).tmrEn = true := rfl
@[simp] theorem State.respond_tmrCount (payload : List Byte) : (s.respond payload).tmrCount = 0 := rfl
@[simp] theorem State.respond_tmrTarget (payload : List Byte) : (s.respond payload).tmrTarget = s.params.tTurn := rfl
@[simp] theorem State.respond_lineTx (payload : List Byte) : (s.respond payload).lineTx = s.lineTx := rfl
@[simp] theorem State.respond_params (payload : List Byte) : (s.respond payload).params = s.params := rfl
@[simp] theorem State.respond_wordsDone (payload : List Byte) : (s.respond payload).wordsDone = none := rfl
@[simp] theorem State.respond_input (payload : List Byte) : (s.respond payload).input = s.input := rfl
@[simp] theorem State.respond_outputs (payload : List Byte) : (s.respond payload).outputs = s.outputs := rfl
@[simp] theorem State.respond_draws (payload : List Byte) : (s.respond payload).draws = s.draws := rfl

/-! ### exception: the exception response -/

@[simp] theorem State.exception_regs (function code : Byte) :
    (s.exception function code).regs = s.regs := rfl
@[simp] theorem State.exception_devaddr (function code : Byte) :
    (s.exception function code).devaddr = s.devaddr := rfl
@[simp] theorem State.exception_state (function code : Byte) :
    (s.exception function code).state = .startingTransmission := rfl
@[simp] theorem State.exception_rxbuf (function code : Byte) :
    (s.exception function code).rxbuf = s.rxbuf := rfl
@[simp] theorem State.exception_rxcur (function code : Byte) :
    (s.exception function code).rxcur = s.rxcur := rfl
@[simp] theorem State.exception_explen (function code : Byte) :
    (s.exception function code).explen = s.explen := rfl
@[simp] theorem State.exception_txcur (function code : Byte) :
    (s.exception function code).txcur = 0 := rfl
@[simp] theorem State.exception_txlen (function code : Byte) :
    (s.exception function code).txlen = 5 := rfl
@[simp] theorem State.exception_tmrEn (function code : Byte) :
    (s.exception function code).tmrEn = true := rfl
@[simp] theorem State.exception_tmrCount (function code : Byte) :
    (s.exception function code).tmrCount = 0 := rfl
@[simp] theorem State.exception_tmrTarget (function code : Byte) :
    (s.exception function code).tmrTarget = s.params.tTurn := rfl
@[simp] theorem State.exception_lineTx (function code : Byte) :
    (s.exception function code).lineTx = s.lineTx := rfl
@[simp] theorem State.exception_params (function code : Byte) :
    (s.exception function code).params = s.params := rfl
@[simp] theorem State.exception_wordsDone (function code : Byte) :
    (s.exception function code).wordsDone = none := rfl
@[simp] theorem State.exception_input (function code : Byte) :
    (s.exception function code).input = s.input := rfl
@[simp] theorem State.exception_outputs (function code : Byte) :
    (s.exception function code).outputs = s.outputs := rfl
@[simp] theorem State.exception_draws (function code : Byte) :
    (s.exception function code).draws = s.draws := rfl


end Sys2Proof.Machine
end

