-- ==== Sys2Proof/Laws/Ops.lean ====
section
/-! SUPPORT. For each shared operation, once, everything it can do. -/

namespace Sys2Proof.Machine

/-! ### The guard -/

/-- A legal state passes the guard. -/
@[simp] theorem checked_of_legal {s : State} (h : s.Legal) (k : Result) : checked s k = k := by
  simp [checked, show s.illegal = none from h]

/-- The guard answers a next state only where the state is legal, and then what it guards does. -/
theorem checked_eq_next {s t : State} {k : Result} : checked s k = .next t ↔ s.Legal ∧ k = .next t := by
  unfold checked State.Legal
  cases h : s.illegal <;> simp

/-- Legality in its parts. -/
theorem State.legal_iff (s : State) :
    s.Legal ↔ paramsValid s.params = true ∧ s.regs.length = s.n ∧ s.state.isReserved = false := by
  unfold State.Legal State.illegal
  by_cases h1 : paramsValid s.params = true <;> by_cases h2 : s.regs.length = s.n <;>
    cases h3 : s.state.isReserved <;> simp_all

/-- Legality does not depend on anything but the parameters, the number of registers and STATE. -/
theorem State.Legal.congr {s t : State} (h : s.Legal) (hp : t.params = s.params) (hr : t.regs.length = s.regs.length)
    (hs : t.state.isReserved = false) : t.Legal := by
  rw [State.legal_iff] at h ⊢
  unfold State.n at *
  rw [hp, hr]
  exact ⟨h.1, h.2.1, hs⟩

/-! ### The register map -/

theorem State.setReg_reg (s : State) (i : Nat) (v : Word) (k : Nat) (hi : i < s.regs.length) :
    (s.setReg i v).reg k = if k = i then v else s.reg k := by
  unfold State.reg
  rw [State.setReg_regs]
  simp only [List.getD_eq_getElem?_getD, List.getElem?_set]
  by_cases h : i = k
  · subst h; simp [hi]
  · simp [h, Ne.symm h]

/-! ### Receive side -/

/-- RXCUR after store_rx (R111). -/
theorem State.storeRx_rxcur_toNat (s : State) (b : Byte) :
    (s.storeRx b).rxcur.toNat = if s.rxcur.toNat < cap then s.rxcur.toNat + 1 else s.rxcur.toNat := by
  unfold State.storeRx
  split
  · next h =>
    simp only [cap] at h
    have h1 : (1 : BitVec 8).toNat = 1 := rfl
    simp only [BitVec.toNat_add, h1]
    omega
  · rfl

/-- RXBUF after store_rx (R111). -/
theorem State.storeRx_read (s : State) (b : Byte) (h : s.rxbuf.wf = true) (a : Nat) :
    (s.storeRx b).rxbuf.read a = if a = s.rxcur.toNat ∧ s.rxcur.toNat < cap then b else s.rxbuf.read a := by
  unfold State.storeRx
  split
  · next hc => simp [Memory.read_write h, hc]
  · next hc => simp [hc]

theorem State.storeRx_wf (s : State) (b : Byte) (h : s.rxbuf.wf = true) : (s.storeRx b).rxbuf.wf = true := by
  unfold State.storeRx
  split
  · next hc => exact Memory.write_wf h hc b
  · exact h

@[simp] theorem State.length_frame (s : State) : s.frame.length = s.rxcur.toNat := by simp [State.frame]

/-- A byte of the received frame is the byte of RXBUF at that offset (R25). -/
theorem State.byteAt_frame (s : State) (k : Nat) (h : k < s.rxcur.toNat) : byteAt s.frame k = s.rxbuf.read k := by
  simpa [byteAt, State.frame] using Memory.getD_bytes s.rxbuf 0 s.rxcur.toNat k h

/-! ### Response build -/

/-- The TX buffer after a response is built: the payload, its CRC low byte first, the rest as before (R103, R155). -/
theorem State.respond_bytes (s : State) (payload : List Byte) (h : s.txbuf.wf = true)
    (hl : payload.length + 2 ≤ cap) :
    (s.respond payload).txbuf = (s.txbuf.writeList 0 payload).writeList payload.length
      [lo (crc16 payload), hi (crc16 payload)] := by
  have hb : (s.txbuf.writeList 0 payload).bytes 0 payload.length = payload :=
    Memory.bytes_writeList h (by omega)
  simp [State.respond, hb]

theorem State.respond_wf (s : State) (payload : List Byte) (h : s.txbuf.wf = true) (hl : payload.length + 2 ≤ cap) :
    (s.respond payload).txbuf.wf = true := by
  rw [State.respond_bytes s payload h hl]
  exact Memory.writeList_wf (Memory.writeList_wf h (by omega)) (by simpa using hl)

/-- Every byte of the TX buffer after a response is built. -/
theorem State.respond_read (s : State) (payload : List Byte) (h : s.txbuf.wf = true) (hl : payload.length + 2 ≤ cap)
    (a : Nat) :
    (s.respond payload).txbuf.read a =
      if a < payload.length + 2 then byteAt (withCrc payload) a else s.txbuf.read a := by
  rw [State.respond_bytes s payload h hl,
    Memory.read_writeList (Memory.writeList_wf h (by omega)) (by simpa using hl), Memory.read_writeList h (by omega)]
  simp only [List.length_cons, List.length_nil, Nat.zero_add, Nat.zero_le, true_and, Nat.sub_zero]
  by_cases h1 : a < payload.length
  · rw [if_neg (by omega), if_pos h1, if_pos (by omega), withCrc, byteAt_append_left _ _ _ h1]
    rfl
  · by_cases h2 : a < payload.length + 2
    · obtain ⟨d, rfl⟩ : ∃ d, a = payload.length + d := ⟨a - payload.length, by omega⟩
      rw [if_pos (by omega), if_pos h2, withCrc, byteAt_append_right]
      simp [byteAt]
    · rw [if_neg (by omega), if_neg (by omega), if_neg h2]

/-! ### The dispatcher's loop -/

/-- What the loop over words can do: finish at once, finish after the last word, or stop between two words (R58). -/
theorem moveWord_cases (count : Nat) (access : Nat → State → State) (finish : State → State) (s : State) :
    (count ≤ s.wordsDone.getD 0 ∧ moveWord count access finish s = finish s) ∨
    (s.wordsDone.getD 0 + 1 = count ∧ moveWord count access finish s = finish (access (s.wordsDone.getD 0) s)) ∨
    (s.wordsDone.getD 0 + 1 < count ∧ moveWord count access finish s =
      { access (s.wordsDone.getD 0) s with wordsDone := some (s.wordsDone.getD 0 + 1) }) := by
  unfold moveWord
  by_cases h1 : s.wordsDone.getD 0 < count
  · by_cases h2 : s.wordsDone.getD 0 + 1 < count
    · simp [h1, h2]
    · have h3 : s.wordsDone.getD 0 + 1 = count := by omega
      simp [h1, h3]
  · simp [h1]; omega

/-- A request runs only in a legal state in Processing, and then answers its step. -/
theorem inProcessing_eq_next {s t k : State} :
    inProcessing s k = .next t ↔ s.Legal ∧ s.state = .processing ∧ k = t := by
  unfold inProcessing
  rw [checked_eq_next]
  by_cases h : s.state = .processing <;> simp [h]

/-- What PROCESS runs for a decoded frame is exec of the request (R140, R142). -/
theorem runRequest_requestOf (frame : List Byte) (s : State) :
    runRequest (requestOf frame) s = exec (requestOf frame) s := by
  by_cases h3 : byteAt frame 1 = 0x03
  · rw [requestOf, if_pos h3]; rfl
  · by_cases h6 : byteAt frame 1 = 0x06
    · rw [requestOf, if_neg h3, if_pos h6]; rfl
    · rw [requestOf, if_neg h3, if_neg h6]; rfl

/-! ### The watchdog -/

/-- What an expiry can do (R175). -/
theorem State.expire_cases (s t : State) (h : s.expire = .next t) :
    ((s.state = .idle ∨ s.state = .receiving ∨ s.state = .ignoring) ∧ t = s.frameReset) ∨
    (s.state = .startingTransmission ∧ t = s.beginTx) ∨
    ((s.state = .processing ∨ s.state = .transmitting) ∧ t = s.timerDisarm) := by
  unfold State.expire at h
  cases hs : s.state <;> simp_all

/-! ### Which instruction a step runs -/

/-- What can come next while a PROCESS step is under way: PROCESS goes on, with at most a turn of the dispatcher taken; or an
access of the control loop is taken; or the word that is to come between two words spells no event (R58). -/
theorem selectMid_cases (s : State) :
    (∃ rest, s.input = .dispatcher :: rest ∧ selectMid s = .run .process { s with input := rest }) ∨
    selectMid s = .run .process s ∨
    (∃ w rest i, s.input = .between w :: rest ∧ decodeEvent w = .ok i ∧ i.isLoopPort = true ∧
      selectMid s = .run i { s with input := rest }) ∨
    (∃ w rest r, s.input = .between w :: rest ∧ decodeEvent w = .error r ∧ selectMid s = .badEvent) := by
  unfold selectMid
  split
  · exact .inr (.inl rfl)
  · exact .inr (.inl rfl)
  · next rest h => exact .inl ⟨rest, h, rfl⟩
  · exact .inr (.inl rfl)
  · next w rest h =>
    cases hd : decodeEvent w with
    | error r => exact .inr (.inr (.inr ⟨w, rest, r, h, hd, by simp⟩))
    | ok i =>
      cases hi : i.isLoopPort with
      | false => exact .inr (.inl (by simp [hi]))
      | true => exact .inr (.inr (.inl ⟨w, rest, i, h, hd, hi, by simp [hi]⟩))

/-- A step that answers a next state ran an instruction the stream or the dispatcher chose, or waited. -/
theorem step_cases {s t : State} (h : step s = .next t) :
    (∃ i u, select s = .run i u ∧ exec i u = .next t) ∨ (select s = .wait t ∧ s.Legal) := by
  unfold step at h
  cases hs : select s with
  | run i u => rw [hs] at h; exact .inl ⟨i, u, rfl, h⟩
  | wait u =>
    rw [hs] at h
    obtain ⟨hl, hu⟩ := checked_eq_next.1 h
    cases hu
    exact .inr ⟨rfl, hl⟩
  | badEvent =>
    rw [hs] at h
    exact absurd (checked_eq_next.1 h).2 (by simp)

/-- The state an instruction is run in, or the block waits in, is the state before but for the turn taken. -/
theorem select_state {s : State} :
    (∀ i u, select s = .run i u → ∃ rest, u = { s with input := rest }) ∧
    (∀ u, select s = .wait u → ∃ rest, u = { s with input := rest }) := by
  unfold select selectMid dispatcherTurn eventTurn
  refine ⟨fun i u h => ?_, fun u h => ?_⟩ <;> (repeat' split at h) <;>
    first
    | exact Selection.noConfusion h
    | (injection h with _ h2; exact ⟨_, h2.symm⟩)
    | (injection h with h2; exact ⟨_, h2.symm⟩)

end Sys2Proof.Machine
end

