-- ==== Sys2Proof/Laws/PerInstr.lean ====
section
/-! SUPPORT. Facts about every instruction as syntax, one lemma per constructor. Family EncodedLength: a request's encoding is a
frame of at least 8 bytes that fits the buffers (R6, R28) and has the length that its own function code and count field
demand (R89); no other instruction has a frame. -/

namespace Sys2Proof.Laws.EncodedLength

/-- What the family says of an instruction. -/
def Statement (i : Instr) : Prop :=
  i.wellFormed = true → ∀ bytes, encode i = some (.frame bytes) →
    8 ≤ bytes.length ∧ bytes.length ≤ cap ∧
      expectedLength .nine (byteAt bytes 1) (wordAt bytes 4) = some bytes.length

/-- An instruction with an event word has no frame. -/
theorem of_event {i : Instr} {w : EventWord} (h : encodeEvent i = some w) : Statement i := by
  intro _ bytes hb
  simp [encode, h] at hb

theorem rxByte (b : Byte) : Statement (.rxByte b) := of_event rfl

theorem tick : Statement .tick := of_event rfl

theorem txReady : Statement .txReady := of_event rfl

theorem txComplete : Statement .txComplete := of_event rfl

theorem reset : Statement .reset := of_event rfl

theorem setAddr (a : Byte) : Statement (.setAddr a) := of_event rfl

theorem loopRead (k : LoopIndex) : Statement (.loopRead k) := of_event rfl

theorem loopWrite (k : LoopIndex) (v : Word) : Statement (.loopWrite k v) := of_event rfl

theorem fc03 (addr : Byte) (start count : Word) : Statement (.fc03 addr start count) := by
  intro _ bytes hb
  simp only [encode, encodeEvent, encodeFrame, requestBytes, Option.map_some, Option.some.injEq, Code.frame.injEq] at hb
  subst hb
  simp [wordBytes, withCrc, byteAt, expectedLength, cap]

theorem fc06 (addr : Byte) (address value : Word) : Statement (.fc06 addr address value) := by
  intro _ bytes hb
  simp only [encode, encodeEvent, encodeFrame, requestBytes, Option.map_some, Option.some.injEq, Code.frame.injEq] at hb
  subst hb
  simp [wordBytes, withCrc, byteAt, expectedLength, cap]

theorem fc16 (addr : Byte) (start count : Word) (byteCount : Byte) (words : List Word) :
    Statement (.fc16 addr start count byteCount words) := by
  intro hw bytes hb
  simp only [Instr.wellFormed, Bool.and_eq_true, beq_iff_eq, decide_eq_true_eq] at hw
  simp only [encode, encodeEvent, encodeFrame, requestBytes, Option.map_some, Option.some.injEq, Code.frame.injEq] at hb
  subst hb
  simp [wordBytes, withCrc, byteAt, wordAt, expectedLength, cap, Fc16Base.value] at hw ⊢
  omega

theorem powerOn : Statement .powerOn := by
  intro _ bytes hb
  simp [encode, encodeEvent, encodeFrame, requestBytes] at hb

theorem process : Statement .process := by
  intro _ bytes hb
  simp [encode, encodeEvent, encodeFrame, requestBytes] at hb

end Sys2Proof.Laws.EncodedLength
end

