-- ==== Sys2Proof/Laws/Transport.lean ====
section
/-! SUPPORT. The transport's moves one by one, what a step can give it to send, and what a step of the system can do. -/

namespace Sys2Proof.Machine

/-! ### The fields of a transport after it sends, and at the start -/

@[simp] theorem Transport.send_received (bytes : List Byte) (t : Transport) : (t.send bytes).received = t.received := rfl

@[simp] theorem Transport.send_sent (bytes : List Byte) (t : Transport) : (t.send bytes).sent = t.sent ++ bytes := rfl

@[simp] theorem Transport.send_readyOwed (bytes : List Byte) (t : Transport) :
    (t.send bytes).readyOwed = t.readyOwed + bytes.length := rfl

@[simp] theorem Transport.send_completeOwed (bytes : List Byte) (t : Transport) :
    (t.send bytes).completeOwed = (t.completeOwed || !bytes.isEmpty) := rfl

@[simp] theorem Transport.send_nil (t : Transport) : t.send [] = t := by simp [Transport.send]

/-! ### The moves -/

/-- RX_BYTE delivers the next received byte, and takes it. -/
theorem Transport.deliver_rxByte {b : Byte} {t u : Transport} :
    t.deliver (.rxByte b) = some u ↔ ∃ rest, t.received = b :: rest ∧ u = { t with received := rest } := by
  cases h : t.received with
  | nil => simp [Transport.deliver, h]
  | cons c rest =>
    by_cases hb : b = c
    · subst hb; simp [Transport.deliver, h, eq_comm]
    · simp [Transport.deliver, h, hb, Ne.symm hb]

/-- TX_READY answers one byte sent. -/
theorem Transport.deliver_txReady {t u : Transport} :
    t.deliver .txReady = some u ↔ t.readyOwed ≠ 0 ∧ u = { t with readyOwed := t.readyOwed - 1 } := by
  by_cases h : t.readyOwed = 0 <;> simp [Transport.deliver, h, eq_comm]

/-- TX_COMPLETE comes once for what was sent, and only when every byte of it is answered. -/
theorem Transport.deliver_txComplete {t u : Transport} :
    t.deliver .txComplete = some u ↔
      t.completeOwed = true ∧ t.readyOwed = 0 ∧ u = { t with completeOwed := false } := by
  by_cases h : t.completeOwed = true ∧ t.readyOwed = 0
  · simp [Transport.deliver, h, eq_comm]
  · simp only [Transport.deliver, h, if_false, reduceCtorEq, false_iff]
    exact fun h' => h ⟨h'.1, h'.2.1⟩

/-- Every move but TX_READY leaves the answers owed, and every move but TX_COMPLETE the completion owed. -/
theorem Transport.deliver_owed {i : Instr} {t u : Transport} (h : t.deliver i = some u) :
    (i ≠ .txReady → u.readyOwed = t.readyOwed) ∧ (i ≠ .txComplete → u.completeOwed = t.completeOwed) := by
  cases i with
  | rxByte b => obtain ⟨rest, -, rfl⟩ := Transport.deliver_rxByte.1 h; simp
  | txReady => obtain ⟨-, rfl⟩ := Transport.deliver_txReady.1 h; simp
  | txComplete => obtain ⟨-, -, rfl⟩ := Transport.deliver_txComplete.1 h; simp
  | _ => cases h; simp

/-! ### What a step gives the transport to send -/

/-- A step that leaves the outputs as they were emits nothing. -/
theorem emittedBy_of_outputs_eq {s t : State} (h : t.outputs = s.outputs) : emittedBy s t = [] := by
  simp [emittedBy, h]

/-- A step that gives one thing out emits it if it is a byte. -/
theorem emittedBy_of_outputs_append {s t : State} {o : Output} (h : t.outputs = s.outputs ++ [o]) :
    emittedBy s t = [o].filterMap Output.sentByte := by
  simp [emittedBy, h]

/-! ### The system -/

/-- A step of the system is a step of the block in which the transport has the move that is taken. -/
theorem System.step_eq_some {x y : System} :
    x.step = some y ↔
      ∃ t s, x.transport.moveFor (select x.block) = some t ∧ Machine.step x.block = .next s ∧
        y = { block := s, transport := t.send (emittedBy x.block s) } := by
  unfold System.step
  cases hm : x.transport.moveFor (select x.block) with
  | none => simp
  | some t => cases hs : Machine.step x.block <;> simp [eq_comm]

end Sys2Proof.Machine
end

