-- ==== Sys2Proof/Machine/Program.lean ====
section
/-! DEFINITION. The notation of event programs (R91) and its pseudo-instructions (R92), as the turns they stand for. No
step reads these definitions: they build input streams. -/

namespace Sys2Proof.Machine.Program

/-- The turn of an input event; nothing for an instruction without an event word (R93). -/
def event (i : Instr) : List Turn :=
  match encodeEvent i with
  | some w => [.event w]
  | none => []

/-- `RXF hh hh ...`: one RX_BYTE per byte, in order. -/
def rxf (bytes : List Byte) : List Turn := bytes.flatMap fun b => event (.rxByte b)

/-- `TICK ×k`. -/
def ticks (k : Nat) : List Turn := (List.replicate k (event .tick)).flatten

/-- `TXR` k times. -/
def txr (k : Nat) : List Turn := (List.replicate k (event .txReady)).flatten

/-- `TXC`. -/
def txc : List Turn := event .txComplete

/-- `RESET`. -/
def resetLine : List Turn := event .reset

/-- `ADDR hh`. -/
def addr (a : Byte) : List Turn := event (.setAddr a)

/-- `LR i`. -/
def lr (i : LoopIndex) : List Turn := event (.loopRead i)

/-- `LW i hhhh`. -/
def lw (i : LoopIndex) (v : Word) : List Turn := event (.loopWrite i v)

/-- `PROCESS`, written where it is taken. -/
def process : List Turn := [.dispatcher]

/-- The bytes of a request, its CRC included, one RX_BYTE each. -/
def request (i : Instr) : List Turn :=
  match encodeFrame i with
  | some bytes => rxf bytes
  | none => []

/-- `REQ03 a, s, n`. -/
def req03 (a : Byte) (start count : Word) : List Turn := request (.fc03 a start count)

/-- `REQ06 a, r, v`. -/
def req06 (a : Byte) (address value : Word) : List Turn := request (.fc06 a address value)

/-- `REQ16 a, s, [w0, ...]`: the count is the number of words, the byte count 2n mod 256. -/
def req16 (a : Byte) (start : Word) (words : List Word) : List Turn :=
  request (.fc16 a start (BitVec.ofNat 16 words.length) (BitVec.ofNat 8 (2 * words.length)) words)

/-- `SILENCE`: T_FRAME ticks. -/
def silence (p : Params) : List Turn := ticks p.tFrame.toNat

/-- `TURN`: T_TURN ticks. -/
def turn (p : Params) : List Turn := ticks p.tTurn.toNat

/-- `DRAIN`: TXLEN times TX_READY, then TX_COMPLETE. -/
def drain (txlen : Nat) : List Turn := txr txlen ++ txc

end Sys2Proof.Machine.Program
end

