-- ==== Sys2Proof/Tests/Slice0.lean ====
section
/-! SUPPORT. Checks of this model against values written out from the spec (spec/95_test_vectors.md and the encodings of
30_encoding.md), and for every statement with hypotheses a concrete state and operands that meet them. -/

namespace Sys2Proof.Tests

open Sys2Proof.Machine

-- One declaration after the other: checked side by side, the theorems of this file take a thread each.
set_option Elab.async false

/-! ### States to test from -/

/-- The parameters of the vectors: N = 3, T_FRAME = 4, T_TURN = 2 (95_test_vectors.md), REG_INIT and DEVADDR_INIT chosen. -/
def vectorParams : Params where
  regInit := [0x1111, 0x2222, 0x3333]
  devaddrInit := 1
  tFrame := 4
  tTurn := 2
  inspectAt := .seventh
  crcCheck := .standard
  fc16Base := .nine

/-- Quiet, addressed as 1. -/
def quietState : State := State.afterPowerOn vectorParams

/-- A frame coming in: these bytes stored, this STATE and EXPLEN, and the timer armed with this count. -/
def incoming (st : SlaveState) (bytes : List Byte) (len : BitVec 18) (count : BitVec 16) : State :=
  { quietState with
    state := st
    rxbuf := Memory.ofBytes bytes
    rxcur := BitVec.ofNat 8 bytes.length
    explen := len
    tmrEn := true
    tmrCount := count
    tmrTarget := 4 }

/-- Idle with six bytes of a frame for slave a. -/
def idleSix (a : Byte) : State := incoming .idle [a, 0x03, 0x00, 0x00, 0x00, 0x01] 6 0

/-- Receiving with seven bytes of an FC03 request, one tick before the timeout. -/
def receivingSeven : State := incoming .receiving [0x01, 0x03, 0x00, 0x00, 0x00, 0x01, 0x84] 8 3

/-- Receiving with seven bytes of an FC16 request of 13. -/
def receivingFc16 : State := incoming .receiving [0x01, 0x10, 0x00, 0x00, 0x00, 0x02, 0x04] 13 0

/-- Ignoring, RXBUF full. -/
def ignoringFull : State := { incoming .ignoring [0x02, 0x06, 0x00, 0x01, 0x12, 0x34, 0xD5] 255 3 with rxcur := 255 }

/-- A complete frame waiting for PROCESS. -/
def complete (bytes : List Byte) : State :=
  { quietState with
    state := .processing
    rxbuf := Memory.ofBytes bytes
    rxcur := BitVec.ofNat 8 bytes.length
    explen := BitVec.ofNat 18 bytes.length
    tmrTarget := 4 }

/-- `01 06 00 01 12 34 D5 7D` (V-DI-15). -/
def frameFc06 : List Byte := [0x01, 0x06, 0x00, 0x01, 0x12, 0x34, 0xD5, 0x7D]

/-- `01 03 00 00 00 03 05 CB` (V-DI-2). -/
def frameFc03 : List Byte := [0x01, 0x03, 0x00, 0x00, 0x00, 0x03, 0x05, 0xCB]

/-- `01 10 00 00 00 02 04 00 01 00 02 23 AE` (V-DI-16). -/
def frameFc16 : List Byte := [0x01, 0x10, 0x00, 0x00, 0x00, 0x02, 0x04, 0x00, 0x01, 0x00, 0x02, 0x23, 0xAE]

/-- V-DI-15 answered, the turnaround one tick before its end. -/
def starting : State :=
  { complete frameFc06 with
    state := .startingTransmission
    txbuf := Memory.ofBytes frameFc06
    txlen := 8
    tmrEn := true
    tmrCount := 1
    tmrTarget := 2 }

/-- V-DI-15 going out, with this many bytes handed over. -/
def transmittingAt (sent : BitVec 8) : State :=
  { starting with state := .transmitting, txcur := sent, tmrEn := false, tmrCount := 2, lineTx := true }

/-- Processing and Transmitting with the timer armed: no run reaches them (R179). -/
def armedProcessing : State := { complete frameFc06 with tmrEn := true, tmrCount := 3 }

/-- See `armedProcessing`. -/
def armedTransmitting : State := { transmittingAt 3 with tmrEn := true }

/-- A valid frame of function 4 in Processing: no run reaches it (R142). -/
def completeFc04 : State := complete [0x01, 0x04, 0x00, 0x00, 0x00, 0x01, 0x31, 0xCA]

/-- V-DI-16 with word 0 moved. -/
def midFc16 : State := { complete frameFc16 with wordsDone := some 1 }

/-- V-DI-2 between its first and its second word access. -/
def midFc03 : State :=
  { complete frameFc03 with txbuf := Memory.ofBytes [0x01, 0x03, 0x06, 0x11, 0x11], wordsDone := some 1 }

/-- These turns are still to come. -/
def withInput (turns : List Turn) (s : State) : State := { s with input := turns }

/-- The next state of an answer, if it is one. -/
def after : Result → Option State
  | .next t => some t
  | .refused _ => none
  | .fault _ => none

/-- What the block would send: TXBUF[0 .. TXLEN-1]. -/
def responseOf (r : Result) : Option (List Byte) := (after r).map fun t => t.txbuf.bytes 0 t.txlen.toNat

/-! ### WellFormed refuses, check by check -/

theorem test_wellFormed_word_count : (Instr.fc16 1 0 2 4 [0x0001]).wellFormed = false := by decide +kernel

theorem test_wellFormed_frame_fits :
    (Instr.fc16 1 0 124 0xF8 (List.replicate 124 0)).wellFormed = false ∧
      (Instr.fc16 1 0 123 0xF6 (List.replicate 123 0)).wellFormed = true := by decide +kernel

/-! ### Decoding: words and frames written out from R70 and R74 to R76 -/

/-- Kind 0, data D5 (V-ENC-1). -/
theorem test_decode_rxByte : decode (.word 0b0000_000000000000_0000000011010101) = .ok (.rxByte 0xD5) := by decide +kernel

/-- Kind 1 (V-ENC-2). -/
theorem test_decode_tick : decode (.word 0b0001_000000000000_0000000000000000) = .ok .tick := by decide +kernel

/-- Kind 2 (V-ENC-3). -/
theorem test_decode_txReady : decode (.word 0b0010_000000000000_0000000000000000) = .ok .txReady := by decide +kernel

/-- Kind 3 (V-ENC-3). -/
theorem test_decode_txComplete : decode (.word 0b0011_000000000000_0000000000000000) = .ok .txComplete := by decide +kernel

/-- Kind 4 (V-ENC-3). -/
theorem test_decode_reset : decode (.word 0b0100_000000000000_0000000000000000) = .ok .reset := by decide +kernel

/-- Kind 5, data 07 (V-ENC-4). -/
theorem test_decode_setAddr : decode (.word 0b0101_000000000000_0000000000000111) = .ok (.setAddr 0x07) := by decide +kernel

/-- Kind 6, index 2 (V-ENC-5). -/
theorem test_decode_loopRead : decode (.word 0b0110_000000000010_0000000000000000) = .ok (.loopRead 2) := by decide +kernel

/-- Kind 7, index 1, data 1234 (V-ENC-6). -/
theorem test_decode_loopWrite :
    decode (.word 0b0111_000000000001_0001001000110100) = .ok (.loopWrite 1 0x1234) := by decide +kernel

/-- V-ENC-7, V-ENC-8. -/
theorem test_decode_refused_words :
    decode (.word 0x80000000) = .error .unknownKind ∧ decode (.word 0xF0000000) = .error .unknownKind ∧
      decode (.word 0x00000100) = .error .unusedField ∧ decode (.word 0x10000001) = .error .unusedField ∧
      decode (.word 0x00010041) = .error .unusedField := by decide +kernel

/-- R74; the CRC of V-DI-4. -/
theorem test_decode_fc03 :
    decode (.frame [0x01, 0x03, 0x00, 0x02, 0x00, 0x02, 0x65, 0xCB]) = .ok (.fc03 0x01 2 2) := by decide +kernel

/-- R75; the CRC of V-CRC-6. -/
theorem test_decode_fc06 : decode (.frame frameFc06) = .ok (.fc06 0x01 0x0001 0x1234) := by decide +kernel

/-- V-ENC-10. -/
theorem test_decode_fc16 :
    decode (.frame frameFc16) = .ok (.fc16 0x01 0 2 0x04 [0x0001, 0x0002]) := by decide +kernel

/-- V-ENC-11: the byte count is carried, not checked. -/
theorem test_decode_fc16_wrong_byte_count :
    decode (.frame [0x01, 0x10, 0x00, 0x00, 0x00, 0x01, 0x99, 0x12, 0x34, 0xDA, 0xC8]) =
      .ok (.fc16 0x01 0 1 0x99 [0x1234]) := by decide +kernel

/-- POWER_ON and PROCESS have no encoding (R93). -/
theorem test_encode_none : encode .powerOn = none ∧ encode .process = none := by decide +kernel

/-- V-CRC-12, V-CRC-11 and V-CRC-10: swapped CRC bytes, and two flipped bits. -/
theorem test_decode_bad_crc :
    decode (.frame [0x01, 0x06, 0x00, 0x01, 0x12, 0x34, 0x7D, 0xD5]) = .error .badCrc ∧
      decode (.frame [0x01, 0x06, 0x00, 0x01, 0x12, 0x34, 0xD5, 0xFD]) = .error .badCrc ∧
      decode (.frame [0x01, 0x06, 0x01, 0x01, 0x12, 0x34, 0xD5, 0x7D]) = .error .badCrc := by decide +kernel

/-- The rows of spec/opcode_table.json: a request row numbers the function code only. -/
theorem test_decodeTableWord :
    decodeTableWord 32 0x60020000 = some (.loopRead 2) ∧ decodeTableWord 32 0x80000000 = none ∧
      decodeTableWord 8 0x03 = some (.fc03 0 0 0) ∧ decodeTableWord 8 0x06 = some (.fc06 0 0 0) ∧
      decodeTableWord 8 0x10 = some (.fc16 0 0 0 0 []) ∧ decodeTableWord 8 0x04 = none := by decide +kernel

/-- V-CRC-3a, V-CRC-3b. -/
theorem test_crc16 : crc16 [0xFF] = 0x00FF ∧ crc16 [0x80] = 0xE0BE := by decide +kernel

/-! ### One step of each instruction -/

/-- V-FR-2, V-FR-3: the seventh byte is inspected. -/
theorem test_rxByte_inspects :
    (after (exec (.rxByte 0x84) (idleSix 0x01))).map
        (fun t => (t.state, t.rxcur, t.explen, t.tmrCount, t.rxbuf.read 6)) =
      some (.receiving, 7, 8, 0, 0x84) := by decide +kernel

/-- V-FR-11: the last byte completes the frame. -/
theorem test_rxByte_completes :
    (after (exec (.rxByte 0x0A) receivingSeven)).map (fun t => (t.state, t.rxcur, t.tmrEn, t.tmrCount, t.tmrTarget)) =
      some (.processing, 8, false, 0, 4) := by decide +kernel

/-- V-FR-12: the expiring tick first. -/
theorem test_tick_discards :
    (after (exec .tick receivingSeven)).map (fun t => (t.state, t.rxcur, t.explen, t.tmrEn, t.tmrTarget)) =
      some (.idle, 0, 6, false, 0) := by decide +kernel

/-- V-LW-9: begin_tx. -/
theorem test_tick_begins_transmission :
    (after (exec .tick starting)).map (fun t => (t.state, t.tmrEn, t.lineTx, t.txcur, t.outputs)) =
      some (.transmitting, false, true, 1, [.txByte 0x01]) := by decide +kernel

/-- V-FR-18. -/
theorem test_txReady_emits :
    (after (exec .txReady (transmittingAt 1))).map (fun t => (t.txcur, t.outputs)) = some (2, [.txByte 0x06]) := by decide +kernel

/-- V-FR-19: the line is not released on a count. -/
theorem test_txReady_after_last : after (exec .txReady (transmittingAt 8)) = some (transmittingAt 8) := by decide +kernel

/-- V-FR-20. -/
theorem test_txComplete_early : after (exec .txComplete (transmittingAt 5)) = some (transmittingAt 5) := by decide +kernel

/-- V-FR-21. -/
theorem test_txComplete_releases :
    (after (exec .txComplete (transmittingAt 8))).map (fun t => (t.state, t.lineTx, t.txcur, t.txlen, t.rxcur)) =
      some (.idle, false, 0, 0, 0) := by decide +kernel

/-- V-RS-7, V-RS-8. -/
theorem test_reset_mid_response :
    (after (exec .reset (transmittingAt 4))).map (fun t => (t.state, t.lineTx, t.txlen, t.regs, t.devaddr)) =
      some (.idle, false, 0, [0x1111, 0x2222, 0x3333], 1) := by decide +kernel

/-- V-FR-24. -/
theorem test_setAddr_mid_response :
    after (exec (.setAddr 0x07) (transmittingAt 4)) = some { transmittingAt 4 with devaddr := 0x07 } := by decide +kernel

/-- V-MEM-1 and V-MEM-3. -/
theorem test_loopRead :
    (after (exec (.loopRead 1) quietState)).map (fun t => t.outputs) = some [.loopValue 0x2222] ∧
      exec (.loopRead 3) quietState = .refused .loopIndex := ⟨by decide +kernel, rfl⟩

/-- V-MEM-2 and V-MEM-3. -/
theorem test_loopWrite :
    (after (exec (.loopWrite 0 0x00FF) quietState)).map (fun t => t.regs) = some [0x00FF, 0x2222, 0x3333] ∧
      exec (.loopWrite 3 0) quietState = .refused .loopIndex := ⟨by decide +kernel, rfl⟩

/-- V-DI-3: one register, one step. -/
theorem test_fc03_one_register :
    responseOf (exec (.fc03 1 2 1) (complete frameFc03)) = some [0x01, 0x03, 0x02, 0x33, 0x33, 0xEC, 0xA1] := by
  decide +kernel

/-- V-DI-8: no wrap. -/
theorem test_fc03_exception :
    responseOf (exec (.fc03 1 0xFFFF 2) (complete frameFc03)) = some [0x01, 0x83, 0x02, 0xC0, 0xF1] := by decide +kernel

/-- V-DI-15. -/
theorem test_fc06_writes :
    (after (exec (.fc06 1 1 0x1234) (complete frameFc06))).map (fun t => t.regs) = some [0x1111, 0x1234, 0x3333] ∧
      responseOf (exec (.fc06 1 1 0x1234) (complete frameFc06)) = some frameFc06 := by decide +kernel

/-- V-DI-12. -/
theorem test_fc06_exception :
    responseOf (exec (.fc06 1 3 5) (complete frameFc06)) = some [0x01, 0x86, 0x02, 0xC3, 0xA1] := by decide +kernel

/-- V-DI-19. -/
theorem test_fc16_one_word :
    (after (exec (.fc16 1 2 1 2 [0xABCD]) (complete frameFc16))).map (fun t => t.regs) =
        some [0x1111, 0x2222, 0xABCD] ∧
      responseOf (exec (.fc16 1 2 1 2 [0xABCD]) (complete frameFc16)) =
        some [0x01, 0x10, 0x00, 0x02, 0x00, 0x01, 0xA0, 0x09] := by decide +kernel

/-- V-DI-18: nothing is written before the range check. -/
theorem test_fc16_exception :
    (after (exec (.fc16 1 2 2 4 [0x0007, 0x0008]) (complete frameFc16))).map (fun t => t.regs) =
        some [0x1111, 0x2222, 0x3333] ∧
      responseOf (exec (.fc16 1 2 2 4 [0x0007, 0x0008]) (complete frameFc16)) =
        some [0x01, 0x90, 0x02, 0xCD, 0xC1] := by decide +kernel

/-- V-RS-1. -/
theorem test_powerOn :
    (after (exec .powerOn { transmittingAt 4 with regs := [0, 0, 0], devaddr := 9 })).map
        (fun t => (t.regs, t.devaddr, t.quiet, t.explen, t.lineTx)) =
      some ([0x1111, 0x2222, 0x3333], 1, true, 6, false) := by decide +kernel

/-- V-DI-23: silent discard. -/
theorem test_process_bad_crc :
    (after (exec .process (complete [0x01, 0x06, 0x00, 0x01, 0x12, 0x34, 0xD5, 0x7C]))).map
        (fun t => (t.state, t.rxcur, t.txlen, t.tmrEn, t.regs)) =
      some (.idle, 0, 0, false, [0x1111, 0x2222, 0x3333]) := by decide +kernel

/-- V-DI-20: count 0, 9 bytes. -/
theorem test_process_fc16_count_zero :
    responseOf (exec .process (complete [0x01, 0x10, 0x00, 0x01, 0x00, 0x00, 0x00, 0x08, 0xAC])) =
      some [0x01, 0x10, 0x00, 0x01, 0x00, 0x00, 0x91, 0xC9] := by decide +kernel

/-- V-MEM-4: a loop write between the two words of an FC16, after the dispatcher has written word 0. -/
theorem test_step_between_two_words :
    (after (step (withInput [.between 0x700100FF] midFc16))).map
        (fun t => (t.regs, t.wordsDone, t.state)) =
      some ([0x1111, 0x00FF, 0x3333], some 1, .processing) := by decide +kernel

/-- V-MEM-5, the gap between word 1 and word 2: the dispatcher's turn is taken by word 1 (22 22), and the loop write comes
next, before word 2. -/
theorem test_step_between_later_words :
    (after (step (withInput [.dispatcher, .between 0x70020005] midFc03))).map
        (fun t => (t.wordsDone, t.input, t.txbuf.bytes 0 7)) =
      some (some 2, [.between 0x70020005], [0x01, 0x03, 0x06, 0x11, 0x11, 0x22, 0x22]) := by decide +kernel

/-- R217: a transport that owes no TX_READY has no such move, though the block alone would take it (V-FR-22); one that owes one
has it, and the byte emitted in that step is its to answer again. -/
theorem test_system_tx_ready :
    System.step { block := withInput [.event 0x20000000] quietState, transport := .quiet [] } = none ∧
      (System.step { block := withInput [.event 0x20000000] (transmittingAt 1),
                     transport := { received := [], sent := [0x01], readyOwed := 1, completeOwed := true } }).map
          (fun y => (y.transport.sent, y.transport.readyOwed, y.block.txcur)) =
        some ([0x01, 0x06], 1, 2) := by decide +kernel

/-- R217: RX_BYTE delivers the byte received, and no other. -/
theorem test_system_rx_byte :
    System.step { block := withInput [.event 0x00000055] quietState, transport := .quiet [0x01] } = none ∧
      (System.step { block := withInput [.event 0x00000001] quietState, transport := .quiet [0x01, 0x03] }).map
          (fun y => (y.transport.received, y.block.rxcur)) =
        some ([0x03], 1) := by decide +kernel

/-- A request row's word runs as the first instruction after reset: FC03 with zero operands, count 0 (R145). -/
theorem test_withFetchWord_fc03 :
    responseOf (step (State.reset.withFetchWord 8 0x03)) = some (withCrc [0x00, 0x03, 0x00]) := by decide +kernel

/-! ### Witnesses: each statement's hypotheses are met together -/

theorem witness_DecodeOfEncodeIsIdentity :
    (Instr.fc16 1 0 2 4 [0x0001, 0x0002]).wellFormed = true ∧
      encode (.fc16 1 0 2 4 [0x0001, 0x0002]) = some (.frame frameFc16) := by decide +kernel

theorem witness_EncodeOfDecodedEventWord : decodeEvent 0x6FFF0000 = .ok (.loopRead 0xFFF) := by decide +kernel

/-- One word for each of the four grounds of R71, each at the edge of its range, and one that is to come between two words. -/
theorem witness_UnspelledEventWordsRefused :
    (withInput [.event 0x80000000] quietState).Legal ∧ (withInput [.event 0x80000000] quietState).midProcess = false ∧
      (withInput [.event 0x80000000] quietState).input = .event 0x80000000 :: [] ∧
      8 ≤ (eventKind 0x80000000).toNat ∧
      ((eventKind 0x50010000).toNat ≤ 5 ∧ eventIndex 0x50010000 ≠ 0) ∧
      (eventKind 0x60000001 = 6 ∧ eventData 0x60000001 ≠ 0) ∧
      (eventKind 0x00000100 = 0 ∧ 256 ≤ (eventData 0x00000100).toNat) ∧
      (withInput [.between 0x80000000] midFc03).Legal ∧ (withInput [.between 0x80000000] midFc03).midProcess = true ∧
      (withInput [.between 0x80000000] midFc03).input = .between 0x80000000 :: [] :=
  ⟨rfl, rfl, rfl, by decide +kernel, by decide +kernel, by decide +kernel, by decide +kernel, rfl, rfl, rfl⟩

theorem witness_RequestFieldsAreHighByteFirst :
    [((0x12 : Byte), (0x34 : Byte))].length = (0 : Byte).toNat * 256 + (1 : Byte).toNat := by decide +kernel

theorem witness_CrcRoundTripAndBitFlips :
    (List.replicate 253 (0xFF : Byte)).length ≤ 253 ∧ 254 < (List.replicate 253 (0xFF : Byte)).length + 2 ∧ 7 < 8 := by
  decide +kernel

theorem witness_AppendCrcLowByteFirst : starting.txbuf.wf = true ∧ 253 + 2 ≤ 255 := by decide +kernel

/-- The first byte, a later byte, a byte past capacity, and the inspected byte with its three outcomes. -/
theorem witness_RxByteInIdle :
    (quietState.Legal ∧ quietState.rxbuf.wf = true ∧ quietState.state = .idle ∧ quietState.rxcur = 0) ∧
      ((idleSix 1).Legal ∧ (idleSix 1).rxbuf.wf = true ∧ (idleSix 1).state = .idle ∧ (idleSix 1).rxcur ≠ 0) ∧
      ({ idleSix 1 with rxcur := 255 }.Legal ∧ ({ idleSix 1 with rxcur := 255 } : State).rxbuf.wf = true ∧
        ({ idleSix 1 with rxcur := 255 } : State).state = .idle) ∧
      (after (exec (.rxByte 0x84) (idleSix 1))).map (fun t => (t.rxcur.toNat, t.rxbuf.read 0, t.rxbuf.read 1)) =
        some (7, 0x01, 0x03) ∧
      (after (exec (.rxByte 0x84) (idleSix 2))).map (fun t => (t.state, t.explen)) = some (.ignoring, 255) ∧
      (after (exec (.rxByte 0x04) (incoming .idle [1, 0x10, 0, 0, 0xFF, 0xFF] 6 0))).map (fun t => (t.state, t.explen)) =
        some (.receiving, 131079) ∧
      (after (exec (.rxByte 0x31) (incoming .idle [1, 0x04, 0, 0, 0, 1] 6 0))).map (fun t => (t.state, t.explen)) =
        some (.ignoring, 255) :=
  ⟨⟨rfl, by decide +kernel, rfl, rfl⟩, ⟨rfl, by decide +kernel, rfl, by decide +kernel⟩, ⟨rfl, by decide +kernel, rfl⟩, by decide +kernel, by decide +kernel, by decide +kernel,
    by decide +kernel⟩

/-- The byte that completes the frame, and one that does not. -/
theorem witness_RxByteInReceiving :
    (receivingSeven.Legal ∧ receivingSeven.rxbuf.wf = true ∧ receivingSeven.state = .receiving ∧
        receivingSeven.rxcur.toNat + 1 = receivingSeven.explen.toNat) ∧
      receivingFc16.Legal ∧ receivingFc16.rxbuf.wf = true ∧ receivingFc16.state = .receiving ∧
        receivingFc16.rxcur.toNat + 1 ≠ receivingFc16.explen.toNat :=
  ⟨⟨rfl, by decide +kernel, rfl, by decide +kernel⟩, rfl, by decide +kernel, rfl, by decide +kernel⟩

theorem witness_RxByteInIgnoring : ignoringFull.Legal ∧ ignoringFull.rxbuf.wf = true ∧ ignoringFull.state = .ignoring :=
  ⟨rfl, by decide +kernel, rfl⟩

theorem witness_RxByteLostWhileBusy :
    ((complete frameFc06).Legal ∧ (complete frameFc06).state = .processing) ∧
      (starting.Legal ∧ starting.state = .startingTransmission) ∧
      (transmittingAt 3).Legal ∧ (transmittingAt 3).state = .transmitting := ⟨⟨rfl, rfl⟩, ⟨rfl, rfl⟩, rfl, rfl⟩

theorem witness_AddressedFrameIsReceived :
    quietState.Legal ∧ quietState.rxbuf.wf = true ∧ quietState.quiet = true ∧ quietState.params.fc16Base = .nine ∧
      quietState.params.crcCheck = .standard ∧ (Instr.fc16 1 0 2 4 [0x0001, 0x0002]).wellFormed = true ∧
      encodeFrame (.fc16 1 0 2 4 [0x0001, 0x0002]) = some frameFc16 ∧ quietState.devaddr ≠ 0 ∧
      byteAt frameFc16 0 = quietState.devaddr :=
  ⟨rfl, rfl, rfl, rfl, rfl, by decide +kernel, by decide +kernel, by decide +kernel, by decide +kernel⟩

/-- A frame of INSPECT_AT bytes for another slave, and a slave without an address. -/
theorem witness_ForeignFrameIsIgnored :
    (quietState.Legal ∧ quietState.rxbuf.wf = true ∧ quietState.quiet = true ∧
        quietState.params.inspectAt.bytes ≤ [0x02, 0x06, 0, 1, 0x12, 0x34, (0xD5 : Byte)].length ∧
        byteAt [0x02, 0x06, 0, 1, 0x12, 0x34, 0xD5] 0 ≠ quietState.devaddr) ∧
      { quietState with devaddr := 0 }.Legal ∧ ({ quietState with devaddr := 0 } : State).rxbuf.wf = true ∧
        { quietState with devaddr := 0 }.quiet = true ∧ ({ quietState with devaddr := 0 } : State).devaddr = 0 :=
  ⟨⟨rfl, rfl, rfl, by decide +kernel, by decide +kernel⟩, rfl, rfl, rfl, rfl⟩

/-- Seven of eight bytes sent, and all eight. -/
theorem witness_TxReadyEmitsNextByte :
    ((transmittingAt 7).Legal ∧ (transmittingAt 7).state = .transmitting ∧ (transmittingAt 7).txcur.toNat < 8) ∧
      (transmittingAt 8).Legal ∧ ¬ (transmittingAt 8).txcur.toNat < (transmittingAt 8).txlen.toNat :=
  ⟨⟨rfl, rfl, by decide +kernel⟩, rfl, by decide +kernel⟩

theorem witness_TxCompleteReleasesTheLine :
    ((transmittingAt 8).Legal ∧ (transmittingAt 8).state = .transmitting ∧
        (transmittingAt 8).txcur = (transmittingAt 8).txlen) ∧
      (transmittingAt 7).Legal ∧ (transmittingAt 7).txcur ≠ (transmittingAt 7).txlen :=
  ⟨⟨rfl, rfl, by decide +kernel⟩, rfl, by decide +kernel⟩

theorem witness_DrainEmitsTheResponse :
    (transmittingAt 1).Legal ∧ (transmittingAt 1).state = .transmitting ∧
      (transmittingAt 1).txcur.toNat + 7 = (transmittingAt 1).txlen.toNat := ⟨rfl, rfl, by decide +kernel⟩

theorem witness_TickCounts :
    (quietState.Legal ∧ quietState.tmrEn = false) ∧
      (incoming .idle [0x01] 6 2).Legal ∧ (incoming .idle [0x01] 6 2).tmrEn = true ∧
      (incoming .idle [0x01] 6 2).tmrCount.toNat + 1 < (incoming .idle [0x01] 6 2).tmrTarget.toNat :=
  ⟨⟨rfl, rfl⟩, rfl, rfl, by decide +kernel⟩

/-- All three states, one tick before the target. -/
theorem witness_ExpiryDiscardsTheFrame :
    ((incoming .idle [0x01] 6 3).Legal ∧ (incoming .idle [0x01] 6 3).state = .idle ∧
        (incoming .idle [0x01] 6 3).tmrEn = true ∧
        (incoming .idle [0x01] 6 3).tmrTarget.toNat ≤ (incoming .idle [0x01] 6 3).tmrCount.toNat + 1) ∧
      (receivingSeven.Legal ∧ receivingSeven.state = .receiving ∧ receivingSeven.tmrEn = true ∧
        receivingSeven.tmrTarget.toNat ≤ receivingSeven.tmrCount.toNat + 1) ∧
      ignoringFull.Legal ∧ ignoringFull.state = .ignoring ∧ ignoringFull.tmrEn = true ∧
        ignoringFull.tmrTarget.toNat ≤ ignoringFull.tmrCount.toNat + 1 :=
  ⟨⟨rfl, rfl, rfl, by decide +kernel⟩, ⟨rfl, rfl, rfl, by decide +kernel⟩, rfl, rfl, rfl, by decide +kernel⟩

theorem witness_ExpiryStartsTransmission :
    starting.Legal ∧ starting.state = .startingTransmission ∧ starting.tmrEn = true ∧
      starting.tmrTarget.toNat ≤ starting.tmrCount.toNat + 1 := ⟨rfl, rfl, rfl, by decide +kernel⟩

/-- Both states, armed by hand: no run reaches them (R179). -/
theorem witness_ExpiryElsewhereDisarms :
    (armedProcessing.Legal ∧ armedProcessing.state = .processing ∧ armedProcessing.tmrEn = true ∧
        armedProcessing.tmrTarget.toNat ≤ armedProcessing.tmrCount.toNat + 1) ∧
      armedTransmitting.Legal ∧ armedTransmitting.state = .transmitting ∧ armedTransmitting.tmrEn = true ∧
        armedTransmitting.tmrTarget.toNat ≤ armedTransmitting.tmrCount.toNat + 1 :=
  ⟨⟨rfl, rfl, rfl, by decide +kernel⟩, rfl, rfl, rfl, by decide +kernel⟩

/-- The invariant holds of a frame coming in. -/
theorem receivingSeven_inv : receivingSeven.Inv where
  legal := rfl
  rxWf := by decide +kernel
  txWf := rfl
  row := by refine ⟨?_, ?_, ?_, ?_, ?_, ?_, ?_⟩ <;> decide +kernel
  line := by decide +kernel
  armed := by decide +kernel
  mid := trivial

/-- The invariant holds of the turnaround. -/
theorem starting_inv : starting.Inv where
  legal := rfl
  rxWf := by decide +kernel
  txWf := by decide +kernel
  row := by refine ⟨⟨?_, ?_⟩, ?_, .inl ?_, ?_, ?_⟩ <;> decide +kernel
  line := by decide +kernel
  armed := by decide +kernel
  mid := trivial

/-- The invariant holds in the middle of a PROCESS step. -/
theorem midFc03_inv : midFc03.Inv where
  legal := rfl
  rxWf := by decide +kernel
  txWf := by decide +kernel
  row := by refine ⟨⟨?_, ?_⟩, ?_, ?_, ?_⟩ <;> decide +kernel
  line := by decide +kernel
  armed := by decide +kernel
  mid := ⟨rfl, by decide +kernel, 0, 3, by decide +kernel, by decide +kernel, by decide +kernel⟩

theorem witness_SilenceEndsTheFrame :
    receivingSeven.Inv ∧ receivingSeven.state = .receiving ∧ receivingSeven.tmrEn = true ∧
      0 < receivingSeven.tmrTarget.toNat - receivingSeven.tmrCount.toNat := ⟨receivingSeven_inv, rfl, rfl, by decide +kernel⟩

theorem witness_TurnaroundEndsInTransmission :
    starting.Inv ∧ starting.state = .startingTransmission ∧
      0 < starting.tmrTarget.toNat - starting.tmrCount.toNat := ⟨starting_inv, rfl, by decide +kernel⟩

theorem witness_LastByteRacesTheExpiringTick :
    receivingSeven.Inv ∧ receivingSeven.state = .receiving ∧
      receivingSeven.rxcur.toNat + 1 = receivingSeven.explen.toNat ∧ receivingSeven.rxcur.toNat < 255 ∧
      receivingSeven.tmrTarget.toNat = receivingSeven.tmrCount.toNat + 1 ∧
      (after (exec .tick receivingSeven)).isSome = true ∧ (after (exec (.rxByte 0x0A) receivingSeven)).isSome = true :=
  ⟨receivingSeven_inv, rfl, by decide +kernel, by decide +kernel, by decide +kernel, by decide +kernel, by decide +kernel⟩

/-- A state that meets the one hypothesis of ResetFromAnyState, SetAddrInAnyState and PowerOnLoadsInitialValues. -/
theorem witness_Legal : (transmittingAt 4).Legal := rfl

theorem witness_ResetIsIdempotent :
    exec .reset (transmittingAt 4) = .next (transmittingAt 4).frameReset ∧
      exec .reset receivingSeven = .next receivingSeven.frameReset := ⟨rfl, rfl⟩

theorem witness_LoopReadReturnsTheRegister :
    quietState.Legal ∧ quietState.regs[BitVec.toNat (2 : LoopIndex)]? = some 0x3333 := ⟨rfl, by decide +kernel⟩

theorem witness_LoopWriteWritesOneRegister :
    quietState.Legal ∧ BitVec.toNat (2 : LoopIndex) < quietState.n := ⟨rfl, by decide +kernel⟩

theorem witness_LoopIndexOutOfRangeRefused :
    quietState.Legal ∧ quietState.n ≤ BitVec.toNat (3 : LoopIndex) := ⟨rfl, by decide +kernel⟩

/-- For each of the three requests, the first range past the map (V-DI-7, V-DI-12, V-DI-18). -/
theorem witness_OutOfRangeGetsExceptionTwo :
    (complete frameFc03).Legal ∧ (complete frameFc03).state = .processing ∧ (complete frameFc03).txbuf.wf = true ∧
      (complete frameFc03).n < BitVec.toNat (4 : Word) + BitVec.toNat (0 : Word) ∧
      (complete frameFc03).n ≤ BitVec.toNat (3 : Word) ∧
      (complete frameFc03).n < BitVec.toNat (2 : Word) + BitVec.toNat (2 : Word) :=
  ⟨rfl, rfl, rfl, by decide +kernel, by decide +kernel, by decide +kernel⟩

/-- All three registers, and none at start N (V-DI-2, V-DI-6). -/
theorem witness_Fc03AnswersTheRegisters :
    (complete frameFc03).Legal ∧ (complete frameFc03).state = .processing ∧ (complete frameFc03).txbuf.wf = true ∧
      (complete frameFc03).wordsDone = none ∧
      BitVec.toNat (0 : Word) + BitVec.toNat (3 : Word) ≤ (complete frameFc03).n ∧
      BitVec.toNat (3 : Word) + BitVec.toNat (0 : Word) ≤ (complete frameFc03).n :=
  ⟨rfl, rfl, rfl, rfl, by decide +kernel, by decide +kernel⟩

/-- The first of three words, the second, the last of two, and the only word of one and no word at all, with the header
still to write. -/
theorem witness_Fc03ReadsOneWordAStep :
    ((complete frameFc03).Legal ∧ (complete frameFc03).state = .processing ∧ (complete frameFc03).txbuf.wf = true ∧
        BitVec.toNat (0 : Word) + BitVec.toNat (3 : Word) ≤ (complete frameFc03).n ∧
        (complete frameFc03).wordsDone.getD 0 = 0 ∧ 0 + 1 < BitVec.toNat (3 : Word)) ∧
      (midFc03.Legal ∧ midFc03.state = .processing ∧ midFc03.txbuf.wf = true ∧ midFc03.wordsDone.getD 0 = 1 ∧
        BitVec.toNat (0 : Word) + BitVec.toNat (3 : Word) ≤ midFc03.n ∧ 1 + 1 < BitVec.toNat (3 : Word)) ∧
      BitVec.toNat (1 : Word) + BitVec.toNat (2 : Word) ≤ midFc03.n ∧ BitVec.toNat (2 : Word) ≤ 1 + 1 ∧
        midFc03.regs[BitVec.toNat (1 : Word) + 1]? = some 0x3333 ∧
      (complete frameFc03).wordsDone = none ∧ BitVec.toNat (1 : Word) ≤ 0 + 1 ∧ BitVec.toNat (0 : Word) ≤ 0 + 1 :=
  ⟨⟨rfl, rfl, rfl, by decide +kernel, rfl, by decide +kernel⟩,
    ⟨rfl, rfl, by decide +kernel, rfl, by decide +kernel, by decide +kernel⟩, by decide +kernel, by decide +kernel,
    by decide +kernel, rfl, by decide +kernel, by decide +kernel⟩

/-- The last register. -/
theorem witness_Fc06WritesAndEchoes :
    (complete frameFc06).Legal ∧ (complete frameFc06).state = .processing ∧ (complete frameFc06).txbuf.wf = true ∧
      BitVec.toNat (2 : Word) < (complete frameFc06).n := ⟨rfl, rfl, rfl, by decide +kernel⟩

theorem witness_Fc06EchoEqualsTheRequest :
    (complete frameFc06).Legal ∧ (complete frameFc06).state = .processing ∧ (complete frameFc06).txbuf.wf = true ∧
      (complete frameFc06).params.crcCheck = .standard ∧
      (complete frameFc06).pendingRequest = some (.fc06 1 1 0x1234) ∧ (complete frameFc06).devaddr = 1 ∧
      BitVec.toNat (1 : Word) < (complete frameFc06).n :=
  ⟨rfl, rfl, rfl, rfl, by decide +kernel, rfl, by decide +kernel⟩

theorem witness_Fc06ValueIsReadBack :
    (after (exec (.fc06 1 1 0x1234) (complete frameFc06))).map (fun t => (t.regs, t.params)) =
        some ([0x1111, 0x1234, 0x3333], vectorParams) ∧
      BitVec.toNat (1 : Word) < (complete frameFc06).n ∧
      { complete frameFc03 with regs := [0x1111, 0x1234, 0x3333] }.Legal ∧ (complete frameFc03).state = .processing ∧
      (complete frameFc03).txbuf.wf = true ∧ (complete frameFc03).wordsDone = none ∧
      (complete frameFc03).params = vectorParams :=
  ⟨by decide +kernel, by decide +kernel, rfl, rfl, rfl, rfl, rfl⟩

/-- Two words up to the last register, and none at start N. -/
theorem witness_Fc16WritesAndEchoes :
    (complete frameFc16).Legal ∧ (complete frameFc16).state = .processing ∧ (complete frameFc16).txbuf.wf = true ∧
      (complete frameFc16).wordsDone = none ∧
      BitVec.toNat (1 : Word) + BitVec.toNat (2 : Word) ≤ (complete frameFc16).n ∧
      [(0x0007 : Word), 0x0008].length = BitVec.toNat (2 : Word) ∧
      BitVec.toNat (3 : Word) + BitVec.toNat (0 : Word) ≤ (complete frameFc16).n ∧
      ([] : List Word).length = BitVec.toNat (0 : Word) :=
  ⟨rfl, rfl, rfl, rfl, by decide +kernel, by decide +kernel, by decide +kernel, by decide +kernel⟩

/-- The first of two words, the last, and count 0. -/
theorem witness_Fc16WritesOneWordAStep :
    ((complete frameFc16).Legal ∧ (complete frameFc16).state = .processing ∧ (complete frameFc16).txbuf.wf = true ∧
        (complete frameFc16).wordsDone.getD 0 = 0 ∧
        BitVec.toNat (0 : Word) + BitVec.toNat (2 : Word) ≤ (complete frameFc16).n ∧
        [(1 : Word), 2].length = BitVec.toNat (2 : Word) ∧ 0 + 1 < BitVec.toNat (2 : Word)) ∧
      (midFc16.Legal ∧ midFc16.state = .processing ∧ midFc16.txbuf.wf = true ∧
        BitVec.toNat (0 : Word) + BitVec.toNat (2 : Word) ≤ midFc16.n ∧
        midFc16.wordsDone.getD 0 + 1 = BitVec.toNat (2 : Word)) ∧
      BitVec.toNat (3 : Word) + BitVec.toNat (0 : Word) ≤ (complete frameFc16).n ∧
        ([] : List Word).length = BitVec.toNat (0 : Word) :=
  ⟨⟨rfl, rfl, rfl, rfl, by decide +kernel, by decide +kernel, by decide +kernel⟩, ⟨rfl, rfl, rfl, by decide +kernel, by decide +kernel⟩, by decide +kernel, by decide +kernel⟩

theorem witness_ProcessDiscardsOnCrcMismatch :
    (complete [0x01, 0x03, 0x00, 0x02, 0x00, 0x02, 0x00, 0x00]).Legal ∧
      (complete [0x01, 0x03, 0x00, 0x02, 0x00, 0x02, 0x00, 0x00]).state = .processing ∧
      8 ≤ (complete [0x01, 0x03, 0x00, 0x02, 0x00, 0x02, 0x00, 0x00]).rxcur.toNat ∧
      crcOk .standard (complete [0x01, 0x03, 0x00, 0x02, 0x00, 0x02, 0x00, 0x00]).frame = false :=
  ⟨rfl, rfl, by decide +kernel, by decide +kernel⟩

theorem witness_ProcessRunsTheRequest :
    (complete frameFc16).Legal ∧ (complete frameFc16).state = .processing ∧
      decodeFrame .standard .nine (complete frameFc16).frame = .ok (.fc16 1 0 2 4 [0x0001, 0x0002]) :=
  ⟨rfl, rfl, by decide +kernel⟩

/-- Idle, and a valid frame of function 4 placed in Processing by hand. -/
theorem witness_ProcessRefusals :
    (quietState.Legal ∧ quietState.state ≠ .processing) ∧
      completeFc04.Legal ∧ completeFc04.state = .processing ∧ 8 ≤ completeFc04.rxcur.toNat ∧
      crcOk completeFc04.params.crcCheck completeFc04.frame = true ∧ completeFc04.rxbuf.read 1 = 0x04 :=
  ⟨⟨rfl, by decide +kernel⟩, rfl, rfl, by decide +kernel, by decide +kernel, by decide +kernel⟩

theorem witness_StepRunsTheNextEvent :
    (withInput [.event 0x10000000] quietState).midProcess = false ∧
      (withInput [.event 0x10000000] quietState).input = .event 0x10000000 :: [] ∧
      (withInput [.between 0x60020000] quietState).input = .between 0x60020000 :: [] ∧
      (withInput [.powerOn] quietState).input = .powerOn :: [] ∧
      decodeEvent 0x10000000 = .ok .tick ∧ decodeEvent 0x60020000 = .ok (.loopRead 2) :=
  ⟨rfl, rfl, rfl, rfl, by decide +kernel, by decide +kernel⟩

/-- The dispatcher's turn, an empty stream, and a PROCESS step under way, with each of the turns that wait. -/
theorem witness_StepRunsThePendingRequest :
    ((complete frameFc03).Legal ∧ (complete frameFc03).state = .processing ∧
        (complete frameFc03).pendingRequest = some (.fc03 1 0 3) ∧ (complete frameFc03).midProcess = false ∧
        (complete frameFc03).input = [] ∧
        (withInput [.dispatcher] (complete frameFc03)).input = .dispatcher :: []) ∧
      midFc03.Legal ∧ midFc03.pendingRequest = some (.fc03 1 0 3) ∧ midFc03.midProcess = true ∧
      midFc03.state = .processing ∧ midFc03.input = [] ∧
      (withInput [.dispatcher] midFc03).input = .dispatcher :: [] ∧
      (withInput [.event 0x40000000] midFc03).input = .event 0x40000000 :: [] ∧
      (withInput [.powerOn] midFc03).input = .powerOn :: [] ∧
      (withInput [.between 0x40000000] midFc03).input = .between 0x40000000 :: [] ∧
      decodeEvent 0x40000000 = .ok .reset :=
  ⟨⟨rfl, rfl, by decide +kernel, rfl, rfl, rfl⟩, rfl, by decide +kernel, rfl, rfl, rfl, rfl, rfl, rfl, rfl,
    by decide +kernel⟩

theorem witness_StepWaitsWithoutEvents :
    quietState.Legal ∧ quietState.state ≠ .processing ∧ quietState.input = [] ∧
      (withInput [.dispatcher] quietState).input = .dispatcher :: [] := ⟨rfl, by decide +kernel, rfl, rfl⟩

/-- The last register, both ways. -/
theorem witness_LoopAccessBetweenTwoWords :
    (withInput [.between 0x70020005] midFc03).Legal ∧ (withInput [.between 0x70020005] midFc03).midProcess = true ∧
      (withInput [.between 0x70020005] midFc03).input = .between 0x70020005 :: [] ∧
      BitVec.toNat (2 : LoopIndex) < midFc03.n ∧ decodeEvent 0x70020005 = .ok (.loopWrite 2 0x0005) ∧
      decodeEvent 0x60020000 = .ok (.loopRead 2) := ⟨rfl, rfl, rfl, by decide +kernel, by decide +kernel, by decide +kernel⟩

/-- N = 0, N = 126, T_FRAME = 0, T_TURN = 0. -/
theorem witness_BadParametersRefused :
    (State.afterPowerOn { vectorParams with regInit := [] }).n = 0 ∧
      (State.afterPowerOn { vectorParams with regInit := List.replicate 126 0 }).n = 126 ∧
      (State.afterPowerOn { vectorParams with tFrame := 0 }).params.tFrame = 0 ∧
      (State.afterPowerOn { vectorParams with tTurn := 0 }).params.tTurn = 0 := by decide +kernel

theorem witness_ReservedStateCodes :
    (paramsValid vectorParams = true ∧ quietState.regs.length = quietState.n ∧
        { quietState with state := .reserved6 }.stateOut = 6 ∧ { quietState with state := .reserved7 }.stateOut = 7) ∧
      (after (exec .tick quietState)).isSome = true := by decide +kernel

theorem witness_InvariantAfterPowerOn : paramsValid { vectorParams with regInit := List.replicate 125 0 } = true := by
  decide +kernel

/-- A step from a state that meets the invariant, and one in the middle of a PROCESS step. -/
theorem witness_StepKeepsTheInvariant :
    (starting.Inv ∧ (after (step starting)).isSome = true) ∧ midFc03.Inv ∧ (after (step midFc03)).isSome = true :=
  ⟨⟨starting_inv, by decide +kernel⟩, midFc03_inv, by decide +kernel⟩

/-- Two states that meet the invariant, and each of the two refusals with its cause (V-ENC-7, V-ENC-9). -/
theorem witness_OnlyBadInputIsRefused :
    receivingSeven.Inv ∧ midFc03.Inv ∧
      (decodeEvent 0x80000000 = .error .unknownKind ∧
        step (withInput [.event 0x80000000] quietState) = .refused .badEvent) ∧
      decodeEvent 0x60030000 = .ok (.loopRead 3) ∧ quietState.n ≤ BitVec.toNat (3 : LoopIndex) ∧
        step (withInput [.event 0x60030000] quietState) = .refused .loopIndex :=
  ⟨receivingSeven_inv, midFc03_inv, ⟨by decide +kernel, rfl⟩, by decide +kernel, by decide +kernel, rfl⟩

/-- The line rises in the expiring tick and falls in TX_COMPLETE. -/
theorem witness_LineDirectionDiscipline :
    (starting.lineTx = false ∧ (after (exec .tick starting)).map (fun t => t.lineTx) = some true) ∧
      (transmittingAt 8).lineTx = true ∧
      (after (exec .txComplete (transmittingAt 8))).map (fun t => t.lineTx) = some false := by decide +kernel

theorem witness_WritersOfRegistersAndAddress :
    (after (exec (.setAddr 7) quietState)).map (fun t => t.devaddr) = some 7 ∧
      (after (exec (.loopWrite 2 5) quietState)).map (fun t => t.regs) = some [0x1111, 0x2222, 5] := by decide +kernel

theorem witness_WhatIsGivenOut :
    (after (exec .txReady (transmittingAt 7))).map (fun t => t.outputs) = some [.txByte 0x7D] ∧
      (after (exec .tick starting)).map (fun t => t.outputs) = some [.txByte 0x01] ∧
      (after (exec (.loopRead 0) starting)).map (fun t => t.outputs) = some [.loopValue 0x1111] := by decide +kernel

theorem witness_StateTransitions :
    (after (exec (.rxByte 0x84) (idleSix 1))).map (fun t => t.state) = some .receiving ∧
      (after (exec .process (complete frameFc06))).map (fun t => t.state) = some .startingTransmission := by
  decide +kernel

/-- The last byte handed over and answered, with TX_COMPLETE the next turn (V-FR-21). -/
def responseOver : System where
  block := withInput [.event 0x30000000] (transmittingAt 8)
  transport := { received := [], sent := frameFc06, readyOwed := 0, completeOwed := true }

/-- The invariant holds of a response that is all handed over. -/
theorem responseOver_inv : responseOver.block.Inv where
  legal := rfl
  rxWf := by decide +kernel
  txWf := by decide +kernel
  row := by refine ⟨⟨?_, ?_⟩, ?_, ?_, .inl ?_, ?_⟩ <;> decide +kernel
  line := by decide +kernel
  armed := by decide +kernel
  mid := trivial

/-- A state and a transport that meet the hypotheses, the duty kept with a step taken, and broken. -/
theorem witness_TransportStaysInStep :
    (responseOver.block.Inv ∧ responseOver.inStep ∧ responseOver.block.state = .transmitting ∧
        responseOver.block.transportDuty responseOver.transport ∧ responseOver.step.isSome = true ∧
        (responseOver.transport.deliver .txComplete).isSome = true) ∧
      ¬ responseOver.block.transportDuty (.quiet []) :=
  ⟨⟨responseOver_inv, fun _ => ⟨rfl, fun _ => rfl⟩, rfl, rfl, by decide +kernel, rfl⟩, Bool.noConfusion⟩

theorem witness_AddressDutyKeepsTheAddress :
    receivingSeven.Inv ∧ receivingSeven.addressHeld ∧ receivingSeven.addressDuty ∧
      (after (step receivingSeven)).isSome = true := by
  refine ⟨receivingSeven_inv, ⟨fun _ => by decide +kernel, fun h => absurd h (by decide +kernel), fun h => absurd h (by decide +kernel)⟩, ?_,
    by decide +kernel⟩
  intro t rest w a h
  exact absurd h (List.cons_ne_nil t rest).symm

/-- `receivingSeven` with another byte in RXBUF past RXCUR. -/
def receivingSevenStale : State := { receivingSeven with rxbuf := receivingSeven.rxbuf.write 100 0xAA }

theorem receivingSevenStale_inv : receivingSevenStale.Inv where
  legal := rfl
  rxWf := by decide +kernel
  txWf := rfl
  row := by refine ⟨?_, ?_, ?_, ?_, ?_, ?_, ?_⟩ <;> decide +kernel
  line := by decide +kernel
  armed := by decide +kernel
  mid := trivial

theorem witness_StaleBytesAreUnobservable :
    receivingSeven.Inv ∧ receivingSevenStale.Inv ∧ receivingSeven.SameLive receivingSevenStale := by
  refine ⟨receivingSeven_inv, receivingSevenStale_inv, fun a h => ?_, fun a h => absurd h (Nat.not_lt_zero a), rfl⟩
  have h7 : a < 7 := h
  interval_cases a <;> decide +kernel

end Sys2Proof.Tests
end

section
/-! SUPPORT. What each instruction can do, once: from `exec i s = .next t`, the conditions under which it answered and the
state it answered. Then the guard of R7 and R24 over all instructions and over the step, and the turns of the stream. -/

namespace Sys2Proof.Machine

variable {s t : State}

/-! ### The guard, over all instructions and over the step -/

/-- An illegal state does not pass the guard (R7, R24). -/
theorem checked_of_illegal {r : Refusal} (h : s.illegal = some r) (k : Result) : checked s k = .refused r := by
  simp [checked, h]

/-- Every instruction refuses an illegal state (R7, R24). -/
theorem exec_of_illegal {r : Refusal} (h : s.illegal = some r) (i : Instr) : exec i s = .refused r := by
  cases i <;> exact checked_of_illegal h _

/-- Every step refuses an illegal state, whatever the next turn is (R7, R24). -/
theorem step_of_illegal {r : Refusal} (h : s.illegal = some r) : step s = .refused r := by
  unfold step
  cases hs : select s with
  | run i u =>
    obtain ⟨rest, rfl⟩ := select_state.1 i u hs
    exact exec_of_illegal (s := { s with input := rest }) h i
  | wait u => exact checked_of_illegal h _
  | badEvent => exact checked_of_illegal h _

/-- The ranges of R6 that the guard looks at (R7). -/
theorem paramsValid_iff (p : Params) :
    paramsValid p = true ↔ 1 ≤ p.n ∧ p.n ≤ 125 ∧ p.tFrame ≠ 0 ∧ p.tTurn ≠ 0 := by
  simp [paramsValid, and_assoc]

/-- Parameters outside their ranges make a state illegal, before anything else is looked at (R7). -/
theorem State.illegal_of_badParams (h : ¬ paramsValid s.params = true) : s.illegal = some .badParameters := by
  simp [State.illegal, h]

/-! ### The events -/

/-- RX_BYTE: the rule for STATE (R110, R119). -/
theorem exec_rxByte_cases {b : Byte} (h : exec (.rxByte b) s = .next t) :
    s.Legal ∧
      ((s.state = .idle ∧ t = rxIdle b s) ∨ (s.state = .receiving ∧ t = rxReceiving b s) ∨
        (s.state = .ignoring ∧ t = rxIgnoring b s) ∨
        ((s.state = .processing ∨ s.state = .startingTransmission ∨ s.state = .transmitting) ∧ t = s)) := by
  obtain ⟨hl, hk⟩ := checked_eq_next.1 h
  cases hs : s.state <;> simp_all

/-- TICK: lost while disarmed, counted, or counted with an expiry (R175). -/
theorem exec_tick_cases (h : exec .tick s = .next t) :
    s.Legal ∧
      ((s.tmrEn = false ∧ t = s) ∨
        (s.tmrEn = true ∧ s.tickExpires = false ∧ t = s.timerCount) ∨
        (s.tmrEn = true ∧ s.tickExpires = true ∧ s.timerCount.expire = .next t)) := by
  obtain ⟨hl, hk⟩ := checked_eq_next.1 h
  refine ⟨hl, ?_⟩
  cases he : s.tmrEn <;> cases hx : s.tickExpires <;> simp_all

/-- TX_READY: the next byte of the response, or no effect (R120). -/
theorem exec_txReady_cases (h : exec .txReady s = .next t) :
    s.Legal ∧
      ((s.state = .transmitting ∧ s.txcur.toNat < s.txlen.toNat ∧
          t = { s.emit (.txByte (s.txbuf.read s.txcur.toNat)) with txcur := s.txcur + 1 }) ∨
        (¬ (s.state = .transmitting ∧ s.txcur.toNat < s.txlen.toNat) ∧ t = s)) := by
  obtain ⟨hl, hk⟩ := checked_eq_next.1 h
  refine ⟨hl, ?_⟩
  split at hk
  · next hc => cases hk; exact .inl ⟨hc.1, hc.2, rfl⟩
  · next hc => cases hk; exact .inr ⟨hc, rfl⟩

/-- TX_COMPLETE: the end of the transaction, or no effect (R121). -/
theorem exec_txComplete_cases (h : exec .txComplete s = .next t) :
    s.Legal ∧
      ((s.state = .transmitting ∧ s.txcur = s.txlen ∧ t = s.frameReset) ∨
        (¬ (s.state = .transmitting ∧ s.txcur = s.txlen) ∧ t = s)) := by
  obtain ⟨hl, hk⟩ := checked_eq_next.1 h
  refine ⟨hl, ?_⟩
  split at hk
  · next hc => cases hk; exact .inl ⟨hc.1, hc.2, rfl⟩
  · next hc => cases hk; exact .inr ⟨hc, rfl⟩

/-- RESET answers in every legal state (R232). -/
theorem exec_reset_eq_next : exec .reset s = .next t ↔ s.Legal ∧ s.frameReset = t := by
  simp [exec, execReset, checked_eq_next]

/-- SET_ADDR answers in every legal state (R125). -/
theorem exec_setAddr_eq_next {a : Byte} :
    exec (.setAddr a) s = .next t ↔ s.Legal ∧ { s with devaddr := a } = t := by
  simp [exec, execSetAddr, checked_eq_next]

/-- LOOP_READ answers where its index names a register (R65, R67). -/
theorem exec_loopRead_eq_next {k : LoopIndex} :
    exec (.loopRead k) s = .next t ↔ s.Legal ∧ k.toNat < s.n ∧ s.emit (.loopValue (s.reg k.toNat)) = t := by
  by_cases hk : k.toNat < s.n <;> simp [exec, execLoopRead, checked_eq_next, hk]

/-- LOOP_WRITE answers where its index names a register (R66, R67). -/
theorem exec_loopWrite_eq_next {k : LoopIndex} {v : Word} :
    exec (.loopWrite k v) s = .next t ↔ s.Legal ∧ k.toNat < s.n ∧ s.setReg k.toNat v = t := by
  by_cases hk : k.toNat < s.n <;> simp [exec, execLoopWrite, checked_eq_next, hk]

/-- An index below N names a register of a legal state (R21). -/
theorem State.Legal.getElem?_regs (hl : s.Legal) {k : Nat} (hk : k < s.n) : s.regs[k]? = some (s.reg k) := by
  obtain ⟨-, hn, -⟩ := s.legal_iff.1 hl
  have hlt : k < s.regs.length := hn ▸ hk
  simp [State.reg, hlt]

/-! ### The requests and PROCESS -/

/-- A frame that decodes: long enough, its CRC good, of the length its function demands, and what it decodes to. -/
theorem decodeFrame_eq_ok {check : CrcCheck} {base : Fc16Base} {frame : List Byte} {i : Instr} :
    decodeFrame check base frame = .ok i ↔
      8 ≤ frame.length ∧ crcOk check frame = true ∧
        expectedLength base (byteAt frame 1) (wordAt frame 4) = some frame.length ∧ i = requestOf frame := by
  unfold decodeFrame
  by_cases h8 : frame.length < 8
  · simp [h8, Nat.not_le.2 h8]
  cases hc : crcOk check frame with
  | false => simp [h8]
  | true =>
    cases he : expectedLength base (byteAt frame 1) (wordAt frame 4) with
    | none => simp [h8]
    | some len =>
      by_cases hlen : frame.length = len
      · subst hlen
        simp [h8, Nat.not_lt.1 h8, eq_comm]
      · simp [h8, hlen, Ne.symm hlen]

/-- A frame that is discarded silently: long enough, with a CRC that is not good (R141). -/
theorem decodeFrame_eq_badCrc {check : CrcCheck} {base : Fc16Base} {frame : List Byte} :
    decodeFrame check base frame = .error .badCrc ↔ 8 ≤ frame.length ∧ crcOk check frame = false := by
  unfold decodeFrame
  by_cases h8 : frame.length < 8
  · simp [h8, Nat.not_le.2 h8]
  cases hc : crcOk check frame with
  | false => simp [h8, Nat.not_lt.1 h8]
  | true =>
    cases he : expectedLength base (byteAt frame 1) (wordAt frame 4) with
    | none => simp [h8]
    | some len =>
      by_cases hlen : frame.length = len
      · subst hlen
        simp [h8]
      · simp [h8, hlen]

/-- PROCESS, where it answers, discards a frame whose CRC is not good, or runs the request in the buffer (R140, R141). -/
theorem exec_process_cases (h : exec .process s = .next t) :
    s.Legal ∧ s.state = .processing ∧
      ((8 ≤ s.frame.length ∧ crcOk s.params.crcCheck s.frame = false ∧ t = s.frameReset) ∨
        (s.pendingRequest = some (requestOf s.frame) ∧ exec (requestOf s.frame) s = .next t)) := by
  obtain ⟨hl, hk⟩ := checked_eq_next.1 h
  split at hk
  · next hp =>
    refine ⟨hl, hp, ?_⟩
    split at hk
    · next i hd =>
      obtain ⟨-, -, -, rfl⟩ := decodeFrame_eq_ok.1 hd
      exact .inr ⟨by simp [State.pendingRequest, hd, Except.toOption], runRequest_requestOf s.frame s ▸ hk⟩
    · next hd =>
      obtain ⟨h8, hc⟩ := decodeFrame_eq_badCrc.1 hd
      cases hk
      exact .inl ⟨h8, hc, rfl⟩
    all_goals cases hk
  · cases hk

/-- The dispatcher's loop keeps whatever each word access and the end of the response keep, if it is no matter of the
number of words moved (R58). -/
theorem moveWord_keeps {α : Type} (field : State → α) (count : Nat) (access : Nat → State → State)
    (finish : State → State) (s : State) (hdone : ∀ u d, field { u with wordsDone := d } = field u)
    (haccess : ∀ j u, field (access j u) = field u) (hfinish : ∀ u, field (finish u) = field u) :
    field (moveWord count access finish s) = field s := by
  obtain ⟨-, h⟩ | ⟨-, h⟩ | ⟨-, h⟩ := moveWord_cases count access finish s
  · rw [h, hfinish]
  · rw [h, hfinish, haccess]
  · rw [h, hdone, haccess]

/-! ### The turns of the stream -/

/-- Outside Processing no PROCESS step is under way (R58). -/
theorem State.midProcess_of_ne (h : s.state ≠ .processing) : s.midProcess = false := by
  simp [State.midProcess, h]

/-- With no PROCESS step under way an event that its word spells is taken and run (R10, R70). -/
theorem select_event {w : EventWord} {i : Instr} {rest : List Turn} (hm : s.midProcess = false)
    (hin : s.input = .event w :: rest ∨ s.input = .between w :: rest) (hd : decodeEvent w = .ok i) :
    select s = .run i { s with input := rest } := by
  obtain hin | hin := hin <;> simp [select, hm, hin, eventTurn, hd]

/-- With no PROCESS step under way power comes on at once (R230). -/
theorem select_powerOn {rest : List Turn} (hm : s.midProcess = false) (hin : s.input = .powerOn :: rest) :
    select s = .run .powerOn { s with input := rest } := by
  simp [select, hm, hin]

/-- Where PROCESS is not enabled, an empty stream waits (R12). -/
theorem select_nil_of_ne (hp : s.state ≠ .processing) (hin : s.input = []) : select s = .wait s := by
  simp [select, State.midProcess_of_ne hp, hin, dispatcherTurn, hp]

/-- Where PROCESS is not enabled, a turn of the dispatcher is taken and the block waits (R140). -/
theorem select_dispatcher_of_ne {rest : List Turn} (hp : s.state ≠ .processing) (hin : s.input = .dispatcher :: rest) :
    select s = .wait { s with input := rest } := by
  simp [select, State.midProcess_of_ne hp, hin, dispatcherTurn, hp]

/-- A step runs what is selected. -/
theorem step_of_run {i : Instr} (h : select s = .run i t) : step s = exec i t := by
  simp [step, h]

/-- A step of a legal state waits where that is selected. -/
theorem step_of_wait (hl : s.Legal) (h : select s = .wait t) : step s = .next t := by
  simp [step, h, hl]

/-! ### What leaves the outputs as they were -/

@[simp] theorem State.inspect_outputs (s : State) : s.inspect.outputs = s.outputs := by
  unfold State.inspect
  split
  · split <;> rfl
  · rfl

@[simp] theorem rxIdle_outputs (b : Byte) (s : State) : (rxIdle b s).outputs = s.outputs := by
  simp only [rxIdle]
  split <;> split <;> simp

@[simp] theorem rxReceiving_outputs (b : Byte) (s : State) : (rxReceiving b s).outputs = s.outputs := by
  simp only [rxReceiving]
  split <;> simp

@[simp] theorem rxIgnoring_outputs (b : Byte) (s : State) : (rxIgnoring b s).outputs = s.outputs := by
  simp [rxIgnoring]

/-- RX_BYTE gives nothing out. -/
theorem exec_rxByte_outputs {b : Byte} (h : exec (.rxByte b) s = .next t) : t.outputs = s.outputs := by
  obtain ⟨-, ⟨-, rfl⟩ | ⟨-, rfl⟩ | ⟨-, rfl⟩ | ⟨-, rfl⟩⟩ := exec_rxByte_cases h
  · exact rxIdle_outputs b s
  · exact rxReceiving_outputs b s
  · exact rxIgnoring_outputs b s
  · rfl

@[simp] theorem fc03Step_outputs (start count : Word) (s : State) : (fc03Step start count s).outputs = s.outputs := by
  unfold fc03Step
  split
  · rw [moveWord_keeps State.outputs _ (fc03Word start) (fc03Finish count) _ (fun _ _ => rfl) (fun _ _ => rfl)
      (fun _ => rfl)]
    split <;> rfl
  · rfl

@[simp] theorem fc06Step_outputs (address value : Word) (s : State) :
    (fc06Step address value s).outputs = s.outputs := by
  unfold fc06Step
  split <;> rfl

@[simp] theorem fc16Step_outputs (start count : Word) (words : List Word) (s : State) :
    (fc16Step start count words s).outputs = s.outputs := by
  unfold fc16Step
  split
  · exact moveWord_keeps State.outputs _ _ _ _ (fun _ _ => rfl) (fun _ _ => rfl) (fun _ => rfl)
  · rfl

/-- FC03 gives nothing out: its response waits in TXBUF (R156). -/
theorem exec_fc03_outputs {addr : Byte} {start count : Word} (h : exec (.fc03 addr start count) s = .next t) :
    t.outputs = s.outputs := by
  obtain ⟨-, -, rfl⟩ := inProcessing_eq_next.1 h
  exact fc03Step_outputs start count s

/-- FC06 gives nothing out: its response waits in TXBUF (R156). -/
theorem exec_fc06_outputs {addr : Byte} {address value : Word} (h : exec (.fc06 addr address value) s = .next t) :
    t.outputs = s.outputs := by
  obtain ⟨-, -, rfl⟩ := inProcessing_eq_next.1 h
  exact fc06Step_outputs address value s

/-- FC16 gives nothing out: its response waits in TXBUF (R156). -/
theorem exec_fc16_outputs {addr byteCount : Byte} {start count : Word} {words : List Word}
    (h : exec (.fc16 addr start count byteCount words) s = .next t) : t.outputs = s.outputs := by
  obtain ⟨-, -, rfl⟩ := inProcessing_eq_next.1 h
  exact fc16Step_outputs start count words s

/-- A request out of a frame gives nothing out. -/
theorem exec_requestOf_outputs {frame : List Byte} (h : exec (requestOf frame) s = .next t) : t.outputs = s.outputs := by
  unfold requestOf at h
  split at h
  · exact exec_fc03_outputs h
  · split at h
    · exact exec_fc06_outputs h
    · exact exec_fc16_outputs h

/-- PROCESS gives nothing out. -/
theorem exec_process_outputs (h : exec .process s = .next t) : t.outputs = s.outputs := by
  obtain ⟨-, -, ⟨-, -, rfl⟩ | ⟨-, hreq⟩⟩ := exec_process_cases h
  · rfl
  · exact exec_requestOf_outputs hreq

/-- TX_COMPLETE gives nothing out. -/
theorem exec_txComplete_outputs (h : exec .txComplete s = .next t) : t.outputs = s.outputs := by
  obtain ⟨-, ⟨-, -, rfl⟩ | ⟨-, rfl⟩⟩ := exec_txComplete_cases h <;> rfl

/-! ### What gives something out -/

/-- TICK gives something out only by the end of the turnaround: the first byte of the response (R178). -/
theorem exec_tick_outputs (h : exec .tick s = .next t) :
    t.outputs = s.outputs ∨
      (s.state = .startingTransmission ∧ t.outputs = s.outputs ++ [.txByte (s.txbuf.read 0)]) := by
  obtain ⟨-, ⟨-, rfl⟩ | ⟨-, -, rfl⟩ | ⟨-, -, hexp⟩⟩ := exec_tick_cases h
  · exact .inl rfl
  · exact .inl rfl
  · obtain ⟨-, rfl⟩ | ⟨hstart, rfl⟩ | ⟨-, rfl⟩ := State.expire_cases _ _ hexp
    · exact .inl rfl
    · exact .inr ⟨hstart, rfl⟩
    · exact .inl rfl

/-- TX_READY gives something out only while bytes are left: the next byte of the response (R120). -/
theorem exec_txReady_outputs (h : exec .txReady s = .next t) :
    t.outputs = s.outputs ∨
      (s.state = .transmitting ∧ s.txcur.toNat < s.txlen.toNat ∧
        t.outputs = s.outputs ++ [.txByte (s.txbuf.read s.txcur.toNat)]) := by
  obtain ⟨-, ⟨htx, hlt, rfl⟩ | ⟨-, rfl⟩⟩ := exec_txReady_cases h
  · exact .inr ⟨htx, hlt, rfl⟩
  · exact .inl rfl

/-- LOOP_READ gives out the register's value (R65). -/
theorem exec_loopRead_outputs {k : LoopIndex} (h : exec (.loopRead k) s = .next t) :
    ∃ v, s.regs[k.toNat]? = some v ∧ t.outputs = s.outputs ++ [.loopValue v] := by
  obtain ⟨hl, hk, rfl⟩ := exec_loopRead_eq_next.1 h
  exact ⟨s.reg k.toNat, hl.getElem?_regs hk, rfl⟩

end Sys2Proof.Machine
end

section
/-! PROOFS. The scope of the model: what is given out, and which instruction a step runs (00_scope.md). -/

namespace Sys2Proof.Proofs.Scope

open Sys2Proof.Machine

/-- Settles O56, by the instruction: three can give something out, and each has its own lemma. -/
theorem whatIsGivenOut : Obligations.WhatIsGivenOut := by
  intro i s t h
  cases i with
  | tick => exact (exec_tick_outputs h).imp_right fun hout => .inl ⟨rfl, hout⟩
  | txReady => exact (exec_txReady_outputs h).imp_right fun hout => .inr (.inl ⟨rfl, hout⟩)
  | loopRead k =>
    obtain ⟨v, hv, hout⟩ := exec_loopRead_outputs h
    exact .inr (.inr (.inr ⟨k, v, rfl, hv, hout⟩))
  | rxByte b => exact .inl (exec_rxByte_outputs h)
  | txComplete => exact .inl (exec_txComplete_outputs h)
  | reset =>
    obtain ⟨-, rfl⟩ := exec_reset_eq_next.1 h
    exact .inl rfl
  | setAddr a =>
    obtain ⟨-, rfl⟩ := exec_setAddr_eq_next.1 h
    exact .inl rfl
  | loopWrite k v =>
    obtain ⟨-, -, rfl⟩ := exec_loopWrite_eq_next.1 h
    exact .inl rfl
  | fc03 addr start count => exact .inl (exec_fc03_outputs h)
  | fc06 addr address value => exact .inl (exec_fc06_outputs h)
  | fc16 addr start count byteCount words => exact .inl (exec_fc16_outputs h)
  | powerOn =>
    obtain ⟨-, hk⟩ := checked_eq_next.1 h
    cases hk
    exact .inl rfl
  | process => exact .inl (exec_process_outputs h)

/-- Settles O44: what is selected, by the next turn. -/
theorem stepRunsTheNextEvent : Obligations.StepRunsTheNextEvent := fun _ _ hm =>
  ⟨fun _ _ hin hd => step_of_run (select_event hm hin hd), fun hin => step_of_run (select_powerOn hm hin)⟩

/-- Settles O46: what is selected outside Processing, by the next turn. -/
theorem stepWaitsWithoutEvents : Obligations.StepWaitsWithoutEvents := fun _ hl hp =>
  ⟨fun hin => step_of_wait hl (select_nil_of_ne hp hin),
    fun _ hin => step_of_wait hl (select_dispatcher_of_ne hp hin)⟩

/-- Settles O48: every step passes the guard, and the guard looks at the parameters first. -/
theorem badParametersRefused : Obligations.BadParametersRefused := by
  intro s hbad
  refine step_of_illegal (State.illegal_of_badParams fun hv => ?_)
  obtain ⟨hpos, hle, hframe, hturn⟩ := (paramsValid_iff s.params).1 hv
  obtain h | h | h | h := hbad
  · exact absurd (h ▸ hpos : 1 ≤ 0) (by decide)
  · exact absurd h (Nat.not_lt.2 hle)
  · exact hframe h
  · exact hturn h

end Sys2Proof.Proofs.Scope
end

section
/-! SUPPORT. Legality (R7, R21, R24) is kept by every shared operation and so by every instruction; and the dispatcher's
loop keeps whatever its parts keep. -/

namespace Sys2Proof.Machine

variable {s t : State}

/-! ### The operations keep a state legal -/

/-- The register map has N words (R21). -/
theorem State.Legal.regs_length (hl : s.Legal) : s.regs.length = s.n := by
  obtain ⟨-, hn, -⟩ := s.legal_iff.1 hl
  exact hn

/-- STATE is one of the six codes (R24). -/
theorem State.Legal.not_reserved (hl : s.Legal) : s.state.isReserved = false := by
  obtain ⟨-, -, hr⟩ := s.legal_iff.1 hl
  exact hr

theorem State.Legal.frameReset (hl : s.Legal) : s.frameReset.Legal := hl.congr rfl rfl rfl

theorem State.Legal.handoff (hl : s.Legal) : s.handoff.Legal := hl.congr rfl rfl rfl

theorem State.Legal.respond (payload : List Byte) (hl : s.Legal) : (s.respond payload).Legal := hl.congr rfl rfl rfl

theorem State.Legal.setReg (i : Nat) (v : Word) (hl : s.Legal) : (s.setReg i v).Legal :=
  hl.congr rfl List.length_set hl.not_reserved

/-! ### RX_BYTE in its parts -/

/-- What inspect() can do: begin to receive a frame of the expected length, or begin to ignore it (R113). -/
theorem State.inspect_cases (s : State) :
    (∃ len, s.requestLength = some len ∧ s.inspect = { s with state := .receiving, explen := BitVec.ofNat 18 len }) ∨
      s.inspect = { s with state := .ignoring, explen := 255 } := by
  unfold State.inspect
  split
  · split
    · next len hlen => exact .inl ⟨len, hlen, rfl⟩
    · exact .inr rfl
  · exact .inr rfl

/-- RX_BYTE in Idle before the inspection: the byte stored, the timer armed on the first byte and restarted on a later
one (R112). -/
def storeIdle (b : Byte) (s : State) : State :=
  if s.rxcur = 0 then State.timerArm s.params.tFrame (s.storeRx b) else (s.storeRx b).timerRestart

/-- RX_BYTE in Idle stores the byte, and then inspects exactly where INSPECT_AT bytes are there (R112). -/
theorem rxIdle_eq (b : Byte) (s : State) :
    rxIdle b s = if (storeIdle b s).rxcur.toNat = s.params.inspectAt.bytes then (storeIdle b s).inspect
      else storeIdle b s := rfl

theorem State.Legal.storeRx (b : Byte) (hl : s.Legal) : (s.storeRx b).Legal :=
  hl.congr (by simp) (by simp) (by simpa using hl.not_reserved)

theorem State.Legal.storeIdle (b : Byte) (hl : s.Legal) : (storeIdle b s).Legal := by
  unfold Machine.storeIdle
  split <;> exact hl.storeRx b

theorem State.Legal.inspect (hl : s.Legal) : s.inspect.Legal := by
  obtain ⟨len, -, h⟩ | h := s.inspect_cases <;> rw [h] <;> exact hl.congr rfl rfl rfl

theorem State.Legal.rxIdle (b : Byte) (hl : s.Legal) : (rxIdle b s).Legal := by
  rw [rxIdle_eq]
  split
  · exact (hl.storeIdle b).inspect
  · exact hl.storeIdle b

theorem State.Legal.rxReceiving (b : Byte) (hl : s.Legal) : (rxReceiving b s).Legal := by
  simp only [Machine.rxReceiving]
  split
  · exact (hl.storeRx b).congr rfl rfl rfl
  · exact hl.storeRx b

/-! ### The dispatcher -/

/-- What holds before the dispatcher's loop (`P`), is kept by each word access, and gives `Q` at the end of the response
and between two words, gives `Q` of the state the loop answers (R58). -/
theorem moveWord_of_invariant {P Q : State → Prop} {count : Nat} {access : Nat → State → State} {finish : State → State}
    (hs : P s) (haccess : ∀ j u, j < count → P u → P (access j u)) (hfinish : ∀ u, P u → Q (finish u))
    (hmid : ∀ j u, j + 1 < count → P u → Q { u with wordsDone := some (j + 1) }) :
    Q (moveWord count access finish s) := by
  obtain ⟨-, h⟩ | ⟨hj, h⟩ | ⟨hj, h⟩ := moveWord_cases count access finish s
  · exact h ▸ hfinish s hs
  · exact h ▸ hfinish _ (haccess _ s (by omega) hs)
  · exact h ▸ hmid _ _ hj (haccess _ s (by omega) hs)

/-- Where FC03's loop begins: with the header written, at the first word (R144). -/
def fc03Begin (count : Word) (s : State) : State := if s.wordsDone = none then fc03Header count s else s

/-- FC03 in its two branches (R143). -/
theorem fc03Step_eq (start count : Word) (s : State) :
    fc03Step start count s = if s.inRange start count then
      moveWord count.toNat (fc03Word start) (fc03Finish count) (fc03Begin count s) else s.exception 0x03 2 := rfl

theorem State.Legal.fc03Step (start count : Word) (hl : s.Legal) : (fc03Step start count s).Legal := by
  rw [fc03Step_eq]
  split
  · have hbegin : (fc03Begin count s).Legal := by
      unfold fc03Begin
      split <;> exact hl
    exact moveWord_of_invariant hbegin (fun _ _ _ hu => hu) (fun _ hu => hu.congr rfl rfl rfl) fun _ _ _ hu => hu
  · exact hl.respond _

theorem State.Legal.fc06Step (address value : Word) (hl : s.Legal) : (fc06Step address value s).Legal := by
  unfold Machine.fc06Step
  split
  · exact (hl.setReg _ _).respond _
  · exact hl.respond _

theorem State.Legal.fc16Step (start count : Word) (words : List Word) (hl : s.Legal) :
    (fc16Step start count words s).Legal := by
  unfold Machine.fc16Step
  split
  · exact moveWord_of_invariant hl (fun _ _ _ hu => hu.setReg _ _) (fun _ hu => hu.respond _) fun _ _ _ hu => hu
  · exact hl.respond _

theorem exec_fc03_legal {addr : Byte} {start count : Word} (h : exec (.fc03 addr start count) s = .next t) : t.Legal := by
  obtain ⟨hl, -, rfl⟩ := inProcessing_eq_next.1 h
  exact hl.fc03Step start count

theorem exec_fc06_legal {addr : Byte} {address value : Word} (h : exec (.fc06 addr address value) s = .next t) :
    t.Legal := by
  obtain ⟨hl, -, rfl⟩ := inProcessing_eq_next.1 h
  exact hl.fc06Step address value

theorem exec_fc16_legal {addr byteCount : Byte} {start count : Word} {words : List Word}
    (h : exec (.fc16 addr start count byteCount words) s = .next t) : t.Legal := by
  obtain ⟨hl, -, rfl⟩ := inProcessing_eq_next.1 h
  exact hl.fc16Step start count words

/-! ### Every instruction keeps a state legal -/

theorem exec_rxByte_legal {b : Byte} (h : exec (.rxByte b) s = .next t) : t.Legal := by
  obtain ⟨hl, ⟨-, rfl⟩ | ⟨-, rfl⟩ | ⟨-, rfl⟩ | ⟨-, rfl⟩⟩ := exec_rxByte_cases h
  · exact hl.rxIdle b
  · exact hl.rxReceiving b
  · exact hl.storeRx b
  · exact hl

theorem exec_tick_legal (h : exec .tick s = .next t) : t.Legal := by
  obtain ⟨hl, ⟨-, rfl⟩ | ⟨-, -, rfl⟩ | ⟨-, -, hexp⟩⟩ := exec_tick_cases h
  · exact hl
  · exact hl
  · obtain ⟨-, rfl⟩ | ⟨-, rfl⟩ | ⟨-, rfl⟩ := State.expire_cases _ _ hexp
    · exact hl.frameReset
    · exact hl.congr rfl rfl rfl
    · exact hl

/-- POWER_ON answers in every legal state: every element of the block written (R230, R233). -/
theorem exec_powerOn_eq_next :
    exec .powerOn s = .next t ↔ s.Legal ∧ State.frameReset
      { s with
        regs := s.params.regInit
        devaddr := s.params.devaddrInit
        rxbuf := powerOnBuffer s.draws
        txbuf := powerOnBuffer (s.draws + 1)
        draws := s.draws + 2 } = t := by
  simp [exec, execPowerOn, checked_eq_next]

theorem exec_powerOn_legal (h : exec .powerOn s = .next t) : t.Legal := by
  obtain ⟨hl, rfl⟩ := exec_powerOn_eq_next.1 h
  exact hl.congr rfl hl.regs_length.symm rfl

theorem exec_requestOf_legal {frame : List Byte} (h : exec (requestOf frame) s = .next t) : t.Legal := by
  unfold requestOf at h
  split at h
  · exact exec_fc03_legal h
  · split at h
    · exact exec_fc06_legal h
    · exact exec_fc16_legal h

theorem exec_process_legal (h : exec .process s = .next t) : t.Legal := by
  obtain ⟨hl, -, ⟨-, -, rfl⟩ | ⟨-, hreq⟩⟩ := exec_process_cases h
  · exact hl.frameReset
  · exact exec_requestOf_legal hreq

/-- Every instruction answers legal states only (R7, R21, R24). -/
theorem exec_legal {i : Instr} (h : exec i s = .next t) : t.Legal := by
  cases i with
  | rxByte b => exact exec_rxByte_legal h
  | tick => exact exec_tick_legal h
  | txReady => obtain ⟨hl, ⟨-, -, rfl⟩ | ⟨-, rfl⟩⟩ := exec_txReady_cases h <;> exact hl
  | txComplete =>
    obtain ⟨hl, ⟨-, -, rfl⟩ | ⟨-, rfl⟩⟩ := exec_txComplete_cases h
    · exact hl.frameReset
    · exact hl
  | reset =>
    obtain ⟨hl, rfl⟩ := exec_reset_eq_next.1 h
    exact hl.frameReset
  | setAddr a =>
    obtain ⟨hl, rfl⟩ := exec_setAddr_eq_next.1 h
    exact hl
  | loopRead k =>
    obtain ⟨hl, -, rfl⟩ := exec_loopRead_eq_next.1 h
    exact hl
  | loopWrite k v =>
    obtain ⟨hl, -, rfl⟩ := exec_loopWrite_eq_next.1 h
    exact hl.setReg _ v
  | fc03 addr start count => exact exec_fc03_legal h
  | fc06 addr address value => exact exec_fc06_legal h
  | fc16 addr start count byteCount words => exact exec_fc16_legal h
  | powerOn => exact exec_powerOn_legal h
  | process => exact exec_process_legal h

/-- The reserved codes as they show on STATE_OUT (R24, R32). -/
theorem State.isReserved_iff_stateOut (s : State) :
    s.state.isReserved = true ↔ s.stateOut = 6 ∨ s.stateOut = 7 := by
  unfold State.stateOut
  cases s.state <;> decide

/-- A reserved code makes a state with legal parameters illegal (R24). -/
theorem State.illegal_of_isReserved (hv : paramsValid s.params = true) (hn : s.regs.length = s.n)
    (hr : s.state.isReserved = true) : s.illegal = some .badState := by
  simp [State.illegal, hv, hn, hr]

end Sys2Proof.Machine
end

section
/-! SUPPORT. The invariant of R37 is kept by every shared operation and so by every instruction that a step selects. -/

namespace Sys2Proof.Machine

variable {s t : State}

/-! ### The parts of the invariant -/

theorem inspectAt_bounds (a : InspectAt) : 6 ≤ a.bytes ∧ a.bytes ≤ 7 := by
  cases a <;> decide

theorem State.midHolds_of_none (h : s.wordsDone = none) : s.midHolds := by
  simp [State.midHolds, h]

/-- Outside Processing no word has been moved (R58). -/
theorem State.Inv.wordsDone_of_ne (hs : s.Inv) (h : s.state ≠ .processing) : s.wordsDone = none := by
  have hmid := hs.mid
  cases hw : s.wordsDone with
  | none => rfl
  | some j =>
    rw [State.midHolds, hw] at hmid
    exact absurd hmid.1 h

/-- Outside Transmitting the line is in receive (R37). -/
theorem State.Inv.lineTx_of_ne (hs : s.Inv) (h : s.state ≠ .transmitting) : s.lineTx = false := by
  rw [← Bool.not_eq_true, hs.line]
  exact h

theorem State.Legal.paramsValid (hl : s.Legal) : paramsValid s.params = true := by
  obtain ⟨hv, -, -⟩ := s.legal_iff.1 hl
  exact hv

theorem State.Legal.tFrame_pos (hl : s.Legal) : 0 < s.params.tFrame.toNat := by
  obtain ⟨-, -, hframe, -⟩ := (paramsValid_iff s.params).1 hl.paramsValid
  exact Nat.pos_of_ne_zero fun h => hframe (BitVec.eq_of_toNat_eq h)

theorem State.Legal.tTurn_pos (hl : s.Legal) : 0 < s.params.tTurn.toNat := by
  obtain ⟨-, -, -, hturn⟩ := (paramsValid_iff s.params).1 hl.paramsValid
  exact Nat.pos_of_ne_zero fun h => hturn (BitVec.eq_of_toNat_eq h)

/-- N is at most 125 (R6). -/
theorem State.Legal.n_le (hl : s.Legal) : s.n ≤ 125 := by
  obtain ⟨-, hn, -, -⟩ := (paramsValid_iff s.params).1 hl.paramsValid
  exact hn

/-- The turns still to come are no matter of the invariant. -/
theorem State.Inv.withInput (hs : s.Inv) (turns : List Turn) : State.Inv { s with input := turns } :=
  ⟨hs.legal, hs.rxWf, hs.txWf, hs.row, hs.line, hs.armed, hs.mid⟩

/-- The frame reset meets the row of Idle, whatever the state was (R231, R37). -/
theorem State.Legal.frameReset_inv (hl : s.Legal) (hrx : s.rxbuf.wf = true) (htx : s.txbuf.wf = true) :
    s.frameReset.Inv where
  legal := hl.frameReset
  rxWf := hrx
  txWf := htx
  row := ⟨by have := inspectAt_bounds s.params.inspectAt; simp; omega, rfl, rfl, rfl, fun _ => ⟨rfl, rfl, rfl⟩,
    fun h => absurd rfl h⟩
  line := by simp
  armed := by simp
  mid := State.midHolds_of_none rfl

theorem State.Inv.frameReset (hs : s.Inv) : s.frameReset.Inv := hs.legal.frameReset_inv hs.rxWf hs.txWf

/-! ### The receive side -/

/-- The length of a request is at least 8 and fits EXPLEN (R27, R89, R116). -/
theorem expectedLength_bounds {base : Fc16Base} {function : Byte} {count : Word} {len : Nat}
    (h : expectedLength base function count = some len) : 8 ≤ len ∧ len < 2 ^ 18 := by
  have hcount := count.isLt
  have hbase : 8 ≤ base.value ∧ base.value ≤ 9 := by cases base <;> decide
  unfold expectedLength at h
  split at h
  · cases h; decide
  · split at h <;> cases h
    omega

/-- store_rx moves the cursor by one at most, and never back (R111). -/
theorem State.storeRx_rxcur_bounds (s : State) (b : Byte) :
    s.rxcur.toNat ≤ (s.storeRx b).rxcur.toNat ∧ (s.storeRx b).rxcur.toNat ≤ s.rxcur.toNat + 1 := by
  rw [State.storeRx_rxcur_toNat]
  split <;> omega

/-- The length that the inspected bytes demand stays when further bytes are stored (R113). -/
theorem State.storeRx_requestLength (b : Byte) (hwf : s.rxbuf.wf = true) (h : 6 ≤ s.rxcur.toNat) :
    (s.storeRx b).requestLength = s.requestLength := by
  have hread (a : Nat) (ha : a < 6) : (s.storeRx b).rxbuf.read a = s.rxbuf.read a := by
    rw [s.storeRx_read b hwf, if_neg (by omega)]
  simp [State.requestLength, hread]

/-- What every state with a frame coming in meets, whichever of the rows Idle, Receiving and Ignoring it is in (R37): the
timer runs towards T_FRAME, and there is no response. -/
structure State.Incoming (s : State) : Prop where
  legal : s.Legal
  rxWf : s.rxbuf.wf = true
  txWf : s.txbuf.wf = true
  txcur : s.txcur = 0
  txlen : s.txlen = 0
  tmrEn : s.tmrEn = true
  tmrTarget : s.tmrTarget = s.params.tFrame
  armed : s.tmrCount.toNat < s.tmrTarget.toNat
  lineTx : s.lineTx = false
  wordsDone : s.wordsDone = none

/-- With its row a state with a frame coming in meets the invariant. -/
theorem State.Incoming.inv (h : s.Incoming) (hne : s.state ≠ .transmitting) (hrow : s.rowHolds) : s.Inv where
  legal := h.legal
  rxWf := h.rxWf
  txWf := h.txWf
  row := hrow
  line := by simp [h.lineTx, hne]
  armed := fun _ => h.armed
  mid := State.midHolds_of_none h.wordsDone

/-- From the first byte of a frame to its last, or to the timeout, the invariant says so (R37). -/
theorem State.Inv.incoming (hs : s.Inv)
    (hst : (s.state = .idle ∧ s.rxcur ≠ 0) ∨ s.state = .receiving ∨ s.state = .ignoring) : s.Incoming := by
  have hparts : s.txcur = 0 ∧ s.txlen = 0 ∧ s.tmrEn = true ∧ s.tmrTarget = s.params.tFrame := by
    have hrow := hs.row
    obtain ⟨hi, hne⟩ | hr | hg := hst
    · simp only [State.rowHolds, hi] at hrow
      obtain ⟨-, -, htxcur, htxlen, -, htimer⟩ := hrow
      exact ⟨htxcur, htxlen, htimer hne⟩
    · simp only [State.rowHolds, hr] at hrow
      obtain ⟨-, -, -, hparts⟩ := hrow
      exact hparts
    · simp only [State.rowHolds, hg] at hrow
      obtain ⟨-, -, hparts⟩ := hrow
      exact hparts
  obtain ⟨htxcur, htxlen, hen, htarget⟩ := hparts
  have hne : s.state ≠ .processing ∧ s.state ≠ .transmitting := by
    obtain ⟨h, -⟩ | h | h := hst <;> simp [h]
  exact ⟨hs.legal, hs.rxWf, hs.txWf, htxcur, htxlen, hen, htarget, hs.armed hen, hs.lineTx_of_ne hne.2,
    hs.wordsDone_of_ne hne.1⟩

/-- STATE and EXPLEN are no matter of what all frames coming in have in common. -/
theorem State.Incoming.withExplen (h : s.Incoming) {st : SlaveState} (hst : st.isReserved = false) (len : BitVec 18) :
    State.Incoming { s with state := st, explen := len } :=
  ⟨h.legal.congr rfl rfl hst, h.rxWf, h.txWf, h.txcur, h.txlen, h.tmrEn, h.tmrTarget, h.armed, h.lineTx, h.wordsDone⟩

/-- A later byte of a frame restarts the timer (R112, R117, R118). -/
theorem State.Incoming.storeRx_timerRestart (h : s.Incoming) (b : Byte) : (s.storeRx b).timerRestart.Incoming where
  legal := h.legal.storeRx b
  rxWf := s.storeRx_wf b h.rxWf
  txWf := by simp [h.txWf]
  txcur := by simp [h.txcur]
  txlen := by simp [h.txlen]
  tmrEn := by simp [h.tmrEn]
  tmrTarget := by simp [h.tmrTarget]
  armed := by simpa [h.tmrTarget] using h.legal.tFrame_pos
  lineTx := by simp [h.lineTx]
  wordsDone := by simp [h.wordsDone]

/-- From the first byte on a frame is coming in (R112). -/
theorem State.Inv.storeIdle_incoming (hs : s.Inv) (hi : s.state = .idle) (b : Byte) : (storeIdle b s).Incoming := by
  have hrow := hs.row
  simp only [State.rowHolds, hi] at hrow
  obtain ⟨-, -, htxcur, htxlen, -⟩ := hrow
  unfold storeIdle
  split
  · exact ⟨hs.legal.storeRx b, s.storeRx_wf b hs.rxWf, by simp [hs.txWf], by simp [htxcur], by simp [htxlen], rfl, by simp,
      hs.legal.tFrame_pos, by simp [hs.lineTx_of_ne, hi], by simp [hs.wordsDone_of_ne, hi]⟩
  · next hne => exact (hs.incoming (.inl ⟨hi, hne⟩)).storeRx_timerRestart b

@[simp] theorem storeIdle_rxcur (b : Byte) (s : State) : (storeIdle b s).rxcur = (s.storeRx b).rxcur := by
  unfold storeIdle; split <;> rfl

@[simp] theorem storeIdle_state (b : Byte) (s : State) : (storeIdle b s).state = s.state := by
  unfold storeIdle; split <;> simp

@[simp] theorem storeIdle_explen (b : Byte) (s : State) : (storeIdle b s).explen = s.explen := by
  unfold storeIdle; split <;> simp

@[simp] theorem storeIdle_params (b : Byte) (s : State) : (storeIdle b s).params = s.params := by
  unfold storeIdle; split <;> simp

/-- The inspection of INSPECT_AT bytes ends in the row of Receiving or of Ignoring (R113, R37). -/
theorem State.Incoming.inspect_inv (h : s.Incoming) (hcur : s.rxcur.toNat = s.params.inspectAt.bytes) :
    s.inspect.Inv := by
  obtain ⟨len, hlen, heq⟩ | heq := s.inspect_cases <;> rw [heq]
  · obtain ⟨hge, hlt⟩ := expectedLength_bounds hlen
    have hbytes := inspectAt_bounds s.params.inspectAt
    have hexp : (BitVec.ofNat 18 len).toNat = len := Nat.mod_eq_of_lt hlt
    exact (h.withExplen rfl _).inv (by simp) ⟨hcur.ge, hcur.trans_lt (by rw [hexp]; omega), by rw [hexp]; exact hlen,
      h.txcur, h.txlen, h.tmrEn, h.tmrTarget⟩
  · exact (h.withExplen rfl _).inv (by simp) ⟨hcur.ge, rfl, h.txcur, h.txlen, h.tmrEn, h.tmrTarget⟩

theorem State.Inv.rxIdle (hs : s.Inv) (hi : s.state = .idle) (b : Byte) : (rxIdle b s).Inv := by
  have hin := hs.storeIdle_incoming hi b
  have hrow := hs.row
  simp only [State.rowHolds, hi] at hrow
  obtain ⟨hcur, hexp, -⟩ := hrow
  have hbytes := inspectAt_bounds s.params.inspectAt
  have hnext : (storeIdle b s).rxcur.toNat = s.rxcur.toNat + 1 := by
    rw [storeIdle_rxcur, State.storeRx_rxcur_toNat, if_pos (by unfold cap; omega)]
  rw [rxIdle_eq]
  split
  · next hat => exact hin.inspect_inv (by simpa using hat)
  · next hat =>
    refine hin.inv (by simp [hi]) ?_
    simp only [State.rowHolds, storeIdle_state, hi]
    exact ⟨by rw [storeIdle_params]; omega, by simp [hexp], hin.txcur, hin.txlen,
      fun h0 => absurd (hnext.symm.trans (congrArg BitVec.toNat h0)) (Nat.succ_ne_zero _), fun _ => ⟨hin.tmrEn, hin.tmrTarget⟩⟩

theorem State.Inv.rxReceiving (hs : s.Inv) (hr : s.state = .receiving) (b : Byte) : (rxReceiving b s).Inv := by
  have hin := (hs.incoming (.inr (.inl hr))).storeRx_timerRestart b
  have hrow := hs.row
  simp only [State.rowHolds, hr] at hrow
  obtain ⟨hge, hlt, hlen, -⟩ := hrow
  have hbytes := inspectAt_bounds s.params.inspectAt
  obtain ⟨hback, hfwd⟩ := s.storeRx_rxcur_bounds b
  have hlen' : (s.storeRx b).requestLength = some (s.storeRx b).explen.toNat := by
    rw [State.storeRx_requestLength b hs.rxWf (by omega), State.storeRx_explen, hlen]
  simp only [Machine.rxReceiving]
  split
  · next hfull =>
    exact ⟨hin.legal.congr rfl rfl rfl, hin.rxWf, hin.txWf, ⟨⟨hlen', hfull⟩, hin.txcur, hin.txlen, rfl⟩,
      by simpa using hin.lineTx, by simp, State.midHolds_of_none hin.wordsDone⟩
  · next hpart =>
    refine hin.inv (by simp [hr]) ?_
    simp only [State.rowHolds, State.timerRestart_state, State.storeRx_state, hr]
    simp only [State.timerRestart_rxcur, State.timerRestart_explen, State.storeRx_explen] at hpart
    refine ⟨?_, ?_, hlen', hin.txcur, hin.txlen, hin.tmrEn, hin.tmrTarget⟩
    · simpa using hge.trans hback
    · simp only [State.timerRestart_rxcur, State.timerRestart_explen, State.storeRx_explen]
      omega

theorem State.Inv.rxIgnoring (hs : s.Inv) (hg : s.state = .ignoring) (b : Byte) : (rxIgnoring b s).Inv := by
  have hin := (hs.incoming (.inr (.inr hg))).storeRx_timerRestart b
  have hrow := hs.row
  simp only [State.rowHolds, hg] at hrow
  obtain ⟨hge, hexp, -⟩ := hrow
  obtain ⟨hback, -⟩ := s.storeRx_rxcur_bounds b
  refine hin.inv (by simp [hg]) ?_
  simp only [State.rowHolds, State.timerRestart_state, State.storeRx_state, hg]
  exact ⟨by simpa using hge.trans hback, by simp [hexp], hin.txcur, hin.txlen, hin.tmrEn, hin.tmrTarget⟩

end Sys2Proof.Machine
end

section
/-! SUPPORT. The timer, the transmit side, the control port and the requests keep the invariant of R37. -/

namespace Sys2Proof.Machine

variable {s t : State}

/-! ### The timer -/

/-- Counting leaves the row of R37 as it is: with the timer armed, no row fixes TMR_COUNT (R175). -/
theorem State.Inv.timerCount_row (hs : s.Inv) (he : s.tmrEn = true) : s.timerCount.rowHolds := by
  have hrow := hs.row
  cases hst : s.state with
  | idle =>
    simp only [State.rowHolds, State.timerCount_state, hst] at hrow ⊢
    obtain ⟨hcur, hexp, htxcur, htxlen, hoff, hon⟩ := hrow
    exact ⟨hcur, hexp, htxcur, htxlen, fun h0 => absurd (he.symm.trans (hoff h0).1) (by simp), hon⟩
  | receiving | processing | ignoring | startingTransmission | transmitting =>
    simp only [State.rowHolds, State.timerCount_state, hst] at hrow ⊢
    exact hrow
  | reserved6 | reserved7 => simp only [State.rowHolds, hst] at hrow

/-- A tick below the target keeps the bound on TMR_COUNT (R31, R175). -/
theorem State.Inv.timerCount (hs : s.Inv) (he : s.tmrEn = true) (hx : s.tickExpires = false) : s.timerCount.Inv where
  legal := hs.legal
  rxWf := hs.rxWf
  txWf := hs.txWf
  row := hs.timerCount_row he
  line := hs.line
  armed := fun _ => by
    have hlt : s.tmrCount.toNat + 1 < s.tmrTarget.toNat := by simpa [State.tickExpires] using hx
    have htarget := s.tmrTarget.isLt
    have hsum : (s.tmrCount + 1).toNat = s.tmrCount.toNat + 1 := by
      rw [BitVec.toNat_add]
      exact Nat.mod_eq_of_lt (by simp; omega)
    exact hsum.symm ▸ hlt
  mid := hs.mid

/-- What the end of the turnaround writes (R178). -/
theorem State.beginTx_eq (s : State) : s.beginTx =
    { s with
      tmrEn := false
      lineTx := true
      outputs := s.outputs ++ [.txByte (s.txbuf.read 0)]
      txcur := 1
      state := .transmitting } := rfl

/-- The end of the turnaround (R178). -/
theorem State.Inv.beginTx (hs : s.Inv) (hst : s.state = .startingTransmission) : s.timerCount.beginTx.Inv := by
  have hrow := hs.row
  simp only [State.rowHolds, hst] at hrow
  obtain ⟨hframe, -, hlen, -⟩ := hrow
  have hpos : 1 ≤ s.txlen.toNat := by
    obtain h | ⟨-, h, -⟩ := hlen <;> omega
  rw [State.beginTx_eq]
  exact ⟨hs.legal.congr rfl rfl rfl, hs.rxWf, hs.txWf, ⟨hframe, by simp, hpos, hlen, rfl⟩, by simp, by simp,
    State.midHolds_of_none (hs.wordsDone_of_ne (by simp [hst]))⟩

/-- The timer is never armed while a frame is processed or a response sent (R37). -/
theorem State.Inv.tmrEn_of_busy (hs : s.Inv) (h : s.state = .processing ∨ s.state = .transmitting) : s.tmrEn = false := by
  have hrow := hs.row
  obtain h | h := h <;> simp only [State.rowHolds, h] at hrow
  · obtain ⟨-, -, -, hen⟩ := hrow
    exact hen
  · obtain ⟨-, -, -, -, hen⟩ := hrow
    exact hen

theorem State.Inv.exec_tick (hs : s.Inv) (h : exec .tick s = .next t) : t.Inv := by
  obtain ⟨-, ⟨-, rfl⟩ | ⟨he, hx, rfl⟩ | ⟨he, -, hexp⟩⟩ := exec_tick_cases h
  · exact hs
  · exact hs.timerCount he hx
  · obtain ⟨-, rfl⟩ | ⟨hst, rfl⟩ | ⟨hbusy, -⟩ := State.expire_cases _ _ hexp
    · exact State.Legal.frameReset_inv (s := s.timerCount) hs.legal hs.rxWf hs.txWf
    · exact hs.beginTx hst
    · exact absurd (he.symm.trans (hs.tmrEn_of_busy hbusy)) (by simp)

/-! ### The transmit side -/

theorem State.Inv.exec_txReady (hs : s.Inv) (h : exec .txReady s = .next t) : t.Inv := by
  obtain ⟨-, ⟨hst, hlt, rfl⟩ | ⟨-, rfl⟩⟩ := exec_txReady_cases h
  · have hrow := hs.row
    simp only [State.rowHolds, hst] at hrow
    obtain ⟨hframe, -, -, hlen, hen⟩ := hrow
    have hnext : (s.txcur + 1).toNat = s.txcur.toNat + 1 := by
      have := s.txlen.isLt
      rw [BitVec.toNat_add]
      exact Nat.mod_eq_of_lt (by simp; omega)
    refine ⟨hs.legal, hs.rxWf, hs.txWf, ?_, hs.line, hs.armed, hs.mid⟩
    simp only [State.rowHolds, State.emit_state, hst]
    exact ⟨hframe, by rw [hnext]; omega, hnext ▸ hlt, hlen, hen⟩
  · exact hs

theorem State.Inv.exec_txComplete (hs : s.Inv) (h : exec .txComplete s = .next t) : t.Inv := by
  obtain ⟨-, ⟨-, -, rfl⟩ | ⟨-, rfl⟩⟩ := exec_txComplete_cases h
  · exact hs.frameReset
  · exact hs

/-! ### The control port, SET_ADDR and POWER_ON -/

/-- DEVADDR is no matter of the invariant. -/
theorem State.Inv.withDevaddr (hs : s.Inv) (a : Byte) : State.Inv { s with devaddr := a } :=
  ⟨hs.legal, hs.rxWf, hs.txWf, hs.row, hs.line, hs.armed, hs.mid⟩

theorem State.Inv.emit (hs : s.Inv) (o : Output) : (s.emit o).Inv :=
  ⟨hs.legal, hs.rxWf, hs.txWf, hs.row, hs.line, hs.armed, hs.mid⟩

theorem State.Inv.setReg (hs : s.Inv) (i : Nat) (v : Word) : (s.setReg i v).Inv :=
  ⟨hs.legal.setReg i v, hs.rxWf, hs.txWf, hs.row, hs.line, hs.armed, hs.mid⟩

theorem powerOnBuffer_wf (draw : Nat) : (powerOnBuffer draw).wf = true := by
  unfold powerOnBuffer
  exact Memory.ofBytes_wf (by rw [List.length_map, List.length_range])

theorem exec_powerOn_inv (h : exec .powerOn s = .next t) : t.Inv := by
  obtain ⟨hl, rfl⟩ := exec_powerOn_eq_next.1 h
  refine State.Legal.frameReset_inv (hl.congr rfl hl.regs_length.symm hl.not_reserved) ?_ ?_ <;>
    dsimp only <;> exact powerOnBuffer_wf _

theorem State.Inv.exec_rxByte {b : Byte} (hs : s.Inv) (h : exec (.rxByte b) s = .next t) : t.Inv := by
  obtain ⟨-, ⟨hi, rfl⟩ | ⟨hr, rfl⟩ | ⟨hg, rfl⟩ | ⟨-, rfl⟩⟩ := exec_rxByte_cases h
  · exact hs.rxIdle hi b
  · exact hs.rxReceiving hr b
  · exact hs.rxIgnoring hg b
  · exact hs

/-! ### The requests -/

/-- A PROCESS step that is moving the words of the request in the buffer, its range check passed (R143, R150). -/
structure State.Moving (start count : Word) (s : State) : Prop where
  inv : s.Inv
  processing : s.state = .processing
  request : s.pendingRequest.bind Instr.wordRange = some (start, count)
  range : s.inRange start count = true

/-- The count of a request in range is at most N (R143, R150). -/
theorem State.count_le_n {start count : Word} (h : s.inRange start count = true) : count.toNat ≤ s.n := by
  simp only [State.inRange, decide_eq_true_eq] at h
  omega

/-- Bytes written to TXBUF are no matter of the invariant but for its canonical form. -/
theorem State.Inv.putTx (hs : s.Inv) {a : Nat} {bytes : List Byte} (h : a + bytes.length ≤ cap) : (s.putTx a bytes).Inv :=
  ⟨hs.legal, hs.rxWf, Memory.writeList_wf hs.txWf h, hs.row, hs.line, hs.armed, hs.mid⟩

theorem State.Moving.putTx {start count : Word} (h : s.Moving start count) {a : Nat} {bytes : List Byte}
    (ha : a + bytes.length ≤ cap) : (s.putTx a bytes).Moving start count :=
  ⟨h.inv.putTx ha, h.processing, h.request, h.range⟩

theorem State.Moving.setReg {start count : Word} (h : s.Moving start count) (i : Nat) (v : Word) :
    (s.setReg i v).Moving start count :=
  ⟨h.inv.setReg i v, h.processing, h.request, h.range⟩

/-- Between two words the invariant says where the PROCESS step stands (R58). -/
theorem State.Moving.between {start count : Word} (h : s.Moving start count) {j : Nat} (hj : j + 1 < count.toNat) :
    State.Inv { s with wordsDone := some (j + 1) } :=
  ⟨h.inv.legal, h.inv.rxWf, h.inv.txWf, h.inv.row, h.inv.line, h.inv.armed,
    h.processing, Nat.succ_pos j, start, count, h.request, h.range, hj⟩

/-- A response of a length that R30 allows, finished by its CRC and handed off, waits for the turnaround (R155, R156). -/
theorem State.Inv.appendCrc_handoff (hs : s.Inv) (hp : s.state = .processing) {m : Nat} (hm : m + 2 ≤ cap)
    (hlen : m + 2 = 8 ∨ ((m + 2) % 2 = 1 ∧ 5 ≤ m + 2 ∧ m + 2 ≤ 5 + 2 * s.n)) : (s.appendCrc m).handoff.Inv := by
  have hrow := hs.row
  simp only [State.rowHolds, hp] at hrow
  obtain ⟨hframe, -⟩ := hrow
  have htxlen : (BitVec.ofNat 8 (m + 2)).toNat = m + 2 := Nat.mod_eq_of_lt (by unfold cap at hm; omega)
  refine ⟨hs.legal.congr rfl rfl rfl, hs.rxWf, Memory.writeList_wf hs.txWf hm, ⟨hframe, rfl, ?_, rfl, rfl⟩, ?_,
    fun _ => hs.legal.tTurn_pos, State.midHolds_of_none rfl⟩
  · rw [State.responseLength, State.handoff_txlen, State.appendCrc_txlen, htxlen]
    exact hlen
  · simp [hs.lineTx_of_ne, hp]

theorem State.Inv.respond (hs : s.Inv) (hp : s.state = .processing) {payload : List Byte}
    (hlen : payload.length = 3 ∨ payload.length = 6) : (s.respond payload).Inv := by
  have hcap : payload.length + 2 ≤ cap := by unfold cap; omega
  exact (hs.putTx (by omega)).appendCrc_handoff hp hcap (by omega)

theorem State.Inv.fc03Step {start count : Word} (hs : s.Inv) (hp : s.state = .processing)
    (hreq : s.pendingRequest.bind Instr.wordRange = some (start, count)) : (fc03Step start count s).Inv := by
  rw [fc03Step_eq]
  split
  · next hrange =>
    have hn := hs.legal.n_le
    have hle := State.count_le_n hrange
    have hmoving : s.Moving start count := ⟨hs, hp, hreq, hrange⟩
    have hbegin : (fc03Begin count s).Moving start count := by
      unfold fc03Begin
      split
      · exact hmoving.putTx (by simp [cap])
      · exact hmoving
    refine moveWord_of_invariant hbegin (fun j u hj hu => hu.putTx ?_) (fun u hu => ?_) fun j u hj hu => hu.between hj
    · simp [cap]; omega
    · have hun := State.count_le_n hu.range
      exact hu.inv.appendCrc_handoff hu.processing (by unfold cap; omega) (by omega)
  · exact hs.respond hp (.inl rfl)

theorem State.Inv.fc06Step (hs : s.Inv) (hp : s.state = .processing) (address value : Word) :
    (fc06Step address value s).Inv := by
  unfold Machine.fc06Step
  split
  · exact (hs.setReg _ _).respond hp (.inr rfl)
  · exact hs.respond hp (.inl rfl)

theorem State.Inv.fc16Step {start count : Word} (hs : s.Inv) (hp : s.state = .processing)
    (hreq : s.pendingRequest.bind Instr.wordRange = some (start, count)) (words : List Word) :
    (fc16Step start count words s).Inv := by
  unfold Machine.fc16Step
  split
  · next hrange =>
    have hmoving : s.Moving start count := ⟨hs, hp, hreq, hrange⟩
    exact moveWord_of_invariant hmoving (fun _ _ _ hu => hu.setReg _ _)
      (fun u hu => hu.inv.respond hu.processing (.inr rfl)) fun _ _ hj hu => hu.between hj
  · exact hs.respond hp (.inl rfl)

/-- The request in the receive buffer keeps the invariant when it runs (R140). -/
theorem State.Inv.exec_requestOf {frame : List Byte} (hs : s.Inv) (hreq : s.pendingRequest = some (requestOf frame))
    (h : exec (requestOf frame) s = .next t) : t.Inv := by
  unfold requestOf at h hreq
  split at h
  · next h3 =>
    obtain ⟨-, hp, rfl⟩ := inProcessing_eq_next.1 h
    exact hs.fc03Step hp (by rw [hreq, if_pos h3]; rfl)
  · next h3 =>
    split at h
    · obtain ⟨-, hp, rfl⟩ := inProcessing_eq_next.1 h
      exact hs.fc06Step hp _ _
    · next h6 =>
      obtain ⟨-, hp, rfl⟩ := inProcessing_eq_next.1 h
      exact hs.fc16Step hp (by rw [hreq, if_neg h3, if_neg h6]; rfl) _

theorem State.Inv.exec_process (hs : s.Inv) (h : exec .process s = .next t) : t.Inv := by
  obtain ⟨-, -, ⟨-, -, rfl⟩ | ⟨hreq, hexec⟩⟩ := exec_process_cases h
  · exact hs.frameReset
  · exact hs.exec_requestOf hreq hexec

end Sys2Proof.Machine
end

section
/-! SUPPORT. What a step selects: no request for words comes but out of the receive buffer; and every instruction that can be
selected keeps the invariant. -/

namespace Sys2Proof.Machine

variable {s t : State}

/-- An event word spells no request for words (R70, R93). -/
theorem decodeEvent_wordRange {w : EventWord} {i : Instr} (h : decodeEvent w = .ok i) : Instr.wordRange i = none := by
  unfold decodeEvent plainEvent byteEvent at h
  (repeat' split at h) <;> cases h <;> rfl

theorem eventTurn_eq_run {w : EventWord} {i : Instr} {u : State} (h : eventTurn w s = .run i u) :
    decodeEvent w = .ok i := by
  unfold eventTurn at h
  split at h <;> cases h
  assumption

/-- What is selected is PROCESS, POWER_ON, or an event that the next turn spells (R10, R58, R140, R230). -/
theorem select_run_cases {i : Instr} {u : State} (h : select s = .run i u) :
    i = .process ∨ i = .powerOn ∨ ∃ w, decodeEvent w = .ok i := by
  unfold select at h
  split at h
  · obtain ⟨rest, -, hm⟩ | hm | ⟨w, rest, j, -, hd, -, hm⟩ | ⟨w, rest, r, -, -, hm⟩ := selectMid_cases s <;>
      rw [hm] at h <;> cases h
    · exact .inl rfl
    · exact .inl rfl
    · exact .inr (.inr ⟨w, hd⟩)
  · unfold dispatcherTurn at h
    split at h
    · split at h <;> cases h
      exact .inl rfl
    · split at h <;> cases h
      exact .inl rfl
    · cases h
      exact .inr (.inl rfl)
    · exact .inr (.inr ⟨_, eventTurn_eq_run h⟩)
    · exact .inr (.inr ⟨_, eventTurn_eq_run h⟩)

theorem select_wordRange {i : Instr} {u : State} (h : select s = .run i u) : Instr.wordRange i = none := by
  obtain rfl | rfl | ⟨w, hd⟩ := select_run_cases h
  · rfl
  · rfl
  · exact decodeEvent_wordRange hd

/-- Every instruction keeps the invariant, but for FC03 and FC16 run with operands that are not those of the request in the
receive buffer, which no step does (R37, R140). -/
theorem State.Inv.exec {i : Instr} (hs : s.Inv) (hi : Instr.wordRange i = none) (h : exec i s = .next t) : t.Inv := by
  cases i with
  | rxByte b => exact hs.exec_rxByte h
  | tick => exact hs.exec_tick h
  | txReady => exact hs.exec_txReady h
  | txComplete => exact hs.exec_txComplete h
  | reset =>
    obtain ⟨-, rfl⟩ := exec_reset_eq_next.1 h
    exact hs.frameReset
  | setAddr a =>
    obtain ⟨-, rfl⟩ := exec_setAddr_eq_next.1 h
    exact hs.withDevaddr a
  | loopRead k =>
    obtain ⟨-, -, rfl⟩ := exec_loopRead_eq_next.1 h
    exact hs.emit _
  | loopWrite k v =>
    obtain ⟨-, -, rfl⟩ := exec_loopWrite_eq_next.1 h
    exact hs.setReg _ v
  | fc03 addr start count => cases hi
  | fc06 addr address value =>
    obtain ⟨-, hp, rfl⟩ := inProcessing_eq_next.1 h
    exact hs.fc06Step hp address value
  | fc16 addr start count byteCount words => cases hi
  | powerOn => exact exec_powerOn_inv h
  | process => exact hs.exec_process h

/-- The state right after POWER_ON is a frame reset of itself (R230, R233). -/
theorem State.afterPowerOn_inv {p : Params} (hp : paramsValid p = true) : (State.afterPowerOn p).Inv :=
  State.Legal.frameReset_inv (s := State.afterPowerOn p) ((State.legal_iff _).2 ⟨hp, rfl, rfl⟩) rfl rfl

end Sys2Proof.Machine
end

section
/-! SUPPORT. States that agree but for stale buffer bytes (R38): what they have in common, and which operations keep it so. -/

namespace Sys2Proof.Machine

variable {s t : State}

/-! ### States that differ in their buffers alone -/

/-- The state with these buffers. -/
def State.withBuffers (rx tx : Memory) (s : State) : State := { s with rxbuf := rx, txbuf := tx }

/-- `State.SameLive`, with the number of bytes of TXBUF that agree left open: what it is while a response is being built. -/
structure State.AgreeTo (n : Nat) (s t : State) : Prop where
  rx : ∀ a, a < s.rxcur.toNat → s.rxbuf.read a = t.rxbuf.read a
  tx : ∀ a, a < n → s.txbuf.read a = t.txbuf.read a
  rest : t = s.withBuffers t.rxbuf t.txbuf

theorem State.sameLive_iff : s.SameLive t ↔ s.AgreeTo s.txWritten t := by
  refine ⟨fun ⟨hrx, htx, hrest⟩ => ⟨hrx, htx, ?_⟩, fun ⟨hrx, htx, hrest⟩ => ⟨hrx, htx, ?_⟩⟩
  · exact (congrArg (State.withBuffers t.rxbuf t.txbuf) hrest).symm
  · exact (congrArg (State.withBuffers [] []) hrest).symm

theorem State.AgreeTo.sameLive {n : Nat} (h : s.AgreeTo n t) (hn : s.txWritten ≤ n) : s.SameLive t :=
  State.sameLive_iff.2 ⟨h.rx, fun a ha => h.tx a (by omega), h.rest⟩

/-- What does not look at the buffers is the same. -/
theorem State.AgreeTo.same {n : Nat} {α : Type} (h : s.AgreeTo n t) (field : State → α)
    (hfield : ∀ u rx tx, field (State.withBuffers rx tx u) = field u := by intros; rfl) : field t = field s := by
  rw [h.rest, hfield]

/-- An operation that neither looks at the buffers nor writes them, nor RXCUR, keeps the agreement. -/
theorem State.AgreeTo.map {n : Nat} (h : s.AgreeTo n t) (f : State → State)
    (hf : ∀ u rx tx, f (State.withBuffers rx tx u) = (f u).withBuffers rx tx := by intros; rfl)
    (hcur : ∀ u, (f u).rxcur = u.rxcur := by intros; rfl) : (f s).AgreeTo n (f t) := by
  have hkeep (u : State) : f u = (f u).withBuffers u.rxbuf u.txbuf := hf u u.rxbuf u.txbuf
  have hrx (u : State) : (f u).rxbuf = u.rxbuf := by rw [hkeep u]; rfl
  have htx (u : State) : (f u).txbuf = u.txbuf := by rw [hkeep u]; rfl
  refine ⟨fun a ha => ?_, fun a ha => ?_, ?_⟩
  · rw [hrx, hrx]
    exact h.rx a (hcur s ▸ ha)
  · rw [htx, htx]
    exact h.tx a ha
  · rw [hrx, htx, ← hf, ← h.rest]

theorem State.SameLive.agreeTo (h : s.SameLive t) : s.AgreeTo s.txWritten t := State.sameLive_iff.1 h

theorem State.SameLive.same {α : Type} (h : s.SameLive t) (field : State → α)
    (hfield : ∀ u rx tx, field (State.withBuffers rx tx u) = field u := by intros; rfl) : field t = field s :=
  h.agreeTo.same field hfield

theorem State.SameLive.map (h : s.SameLive t) (f : State → State)
    (hf : ∀ u rx tx, f (State.withBuffers rx tx u) = (f u).withBuffers rx tx := by intros; rfl)
    (hcur : ∀ u, (f u).rxcur = u.rxcur := by intros; rfl)
    (htx : ∀ u, (f u).txWritten = u.txWritten := by intros; rfl) : (f s).SameLive (f t) :=
  (h.agreeTo.map f hf hcur).sameLive (htx s).le

/-- The received frame is the same (R25). -/
theorem State.SameLive.frame (h : s.SameLive t) : t.frame = s.frame := by
  rw [State.frame, State.frame, h.same State.rxcur]
  exact Memory.bytes_congr fun k hk => by simpa using (h.rx k hk).symm

theorem State.SameLive.pendingRequest (h : s.SameLive t) : t.pendingRequest = s.pendingRequest := by
  rw [State.pendingRequest, State.pendingRequest, h.frame, h.same State.params]

/-- After a frame reset no byte of a buffer is live (R231, R38). -/
theorem State.SameLive.frameReset (h : s.SameLive t) : s.frameReset.SameLive t.frameReset where
  rx := fun _ ha => absurd ha (Nat.not_lt_zero _)
  tx := fun _ ha => absurd ha (Nat.not_lt_zero _)
  rest := congrArg State.frameReset h.rest

end Sys2Proof.Machine
end

section
/-! SUPPORT. The receive side, the timer, the transmit side and the control port answer alike in states that agree but for
stale buffer bytes (R38). -/

namespace Sys2Proof.Machine

variable {s t : State}

theorem State.txWritten_of_none (h : s.wordsDone = none) : s.txWritten = s.txlen.toNat := by
  simp [State.txWritten, h]

/-! ### The receive side -/

/-- A byte stored is stored alike, and is live from then on (R111). -/
theorem State.SameLive.storeRx (h : s.SameLive t) (hw : s.wordsDone = none) (hs : s.rxbuf.wf = true)
    (ht : t.rxbuf.wf = true) (b : Byte) : (s.storeRx b).SameLive (t.storeRx b) where
  rx := fun a ha => by
    rw [State.storeRx_rxcur_toNat] at ha
    rw [s.storeRx_read b hs, t.storeRx_read b ht, h.same State.rxcur]
    split
    · rfl
    · next hne => exact h.rx a (by split at ha <;> omega)
  tx := fun a ha => by
    rw [State.txWritten_of_none (by simpa using hw), State.storeRx_txlen] at ha
    simpa using h.tx a (State.txWritten_of_none hw ▸ ha)
  rest := by
    unfold State.storeRx
    rw [h.same State.rxcur]
    split
    · exact congrArg (fun u : State => { u with rxcur := s.rxcur + 1 }) h.rest
    · exact h.rest

/-- The inspection looks at live bytes alone (R113). -/
theorem State.SameLive.inspect (h : s.SameLive t) (h6 : 6 ≤ s.rxcur.toNat) : s.inspect.SameLive t.inspect := by
  have hread (a : Nat) (ha : a < 6) : t.rxbuf.read a = s.rxbuf.read a := (h.rx a (by omega)).symm
  have hlen : t.requestLength = s.requestLength := by
    simp only [State.requestLength, hread 1 (by decide), hread 4 (by decide), hread 5 (by decide), h.same State.params]
  have hmatch : t.addrMatch (t.rxbuf.read 0) = s.addrMatch (s.rxbuf.read 0) := by
    rw [hread 0 (by decide)]
    exact h.same fun u => u.addrMatch (s.rxbuf.read 0)
  unfold State.inspect
  rw [hmatch, hlen]
  cases s.addrMatch (s.rxbuf.read 0) with
  | false => exact h.map fun u => { u with state := .ignoring, explen := BitVec.ofNat 18 cap }
  | true =>
    cases s.requestLength with
    | none => exact h.map fun u => { u with state := .ignoring, explen := BitVec.ofNat 18 cap }
    | some len => exact h.map fun u => { u with state := .receiving, explen := BitVec.ofNat 18 len }

theorem State.SameLive.rxIdle (h : s.SameLive t) (hw : s.wordsDone = none) (hs : s.rxbuf.wf = true)
    (ht : t.rxbuf.wf = true) (b : Byte) : (rxIdle b s).SameLive (rxIdle b t) := by
  have hbytes := inspectAt_bounds s.params.inspectAt
  have hstore : (storeIdle b s).SameLive (storeIdle b t) := by
    unfold storeIdle
    rw [h.same State.rxcur]
    split
    · rw [h.same State.params]
      exact (h.storeRx hw hs ht b).map (State.timerArm s.params.tFrame)
    · exact (h.storeRx hw hs ht b).map State.timerRestart
  rw [rxIdle_eq, rxIdle_eq, h.same State.params, hstore.same State.rxcur]
  split
  · exact hstore.inspect (by omega)
  · exact hstore

theorem State.SameLive.rxReceiving (h : s.SameLive t) (hw : s.wordsDone = none) (hs : s.rxbuf.wf = true)
    (ht : t.rxbuf.wf = true) (b : Byte) : (rxReceiving b s).SameLive (rxReceiving b t) := by
  have hstore : (s.storeRx b).timerRestart.SameLive (t.storeRx b).timerRestart :=
    (h.storeRx hw hs ht b).map State.timerRestart
  simp only [Machine.rxReceiving]
  rw [hstore.same State.rxcur, hstore.same State.explen]
  split
  · exact hstore.map fun u => { u.timerDisarm with state := .processing }
  · exact hstore

theorem State.SameLive.rxIgnoring (h : s.SameLive t) (hw : s.wordsDone = none) (hs : s.rxbuf.wf = true)
    (ht : t.rxbuf.wf = true) (b : Byte) : (rxIgnoring b s).SameLive (rxIgnoring b t) :=
  (h.storeRx hw hs ht b).map State.timerRestart

theorem State.SameLive.exec_rxByte (h : s.SameLive t) (hs : s.Inv) (ht : t.Inv) (b : Byte) :
    SameLiveResult (exec (.rxByte b) s) (exec (.rxByte b) t) := by
  simp only [exec, execRxByte, checked_of_legal hs.legal, checked_of_legal ht.legal, h.same State.state]
  cases hst : s.state with
  | idle => exact h.rxIdle (hs.wordsDone_of_ne (by simp [hst])) hs.rxWf ht.rxWf b
  | receiving => exact h.rxReceiving (hs.wordsDone_of_ne (by simp [hst])) hs.rxWf ht.rxWf b
  | ignoring => exact h.rxIgnoring (hs.wordsDone_of_ne (by simp [hst])) hs.rxWf ht.rxWf b
  | processing | startingTransmission | transmitting => exact h
  | reserved6 | reserved7 => rfl

/-! ### The timer -/

/-- The first byte of a response is live when it is emitted (R178). -/
theorem State.SameLive.beginTx (h : s.SameLive t) (hpos : 0 < s.txWritten) : s.beginTx.SameLive t.beginTx := by
  rw [State.beginTx_eq, State.beginTx_eq, ← h.tx 0 hpos]
  exact h.map fun u => { u with
    tmrEn := false
    lineTx := true
    outputs := u.outputs ++ [.txByte (s.txbuf.read 0)]
    txcur := 1
    state := .transmitting }

theorem State.SameLive.expire (h : s.SameLive t) (hpos : s.state = .startingTransmission → 0 < s.txWritten) :
    SameLiveResult s.expire t.expire := by
  unfold State.expire
  rw [h.same State.state]
  cases hst : s.state with
  | idle | receiving | ignoring => exact h.frameReset
  | startingTransmission => exact h.beginTx (hpos hst)
  | processing | transmitting => exact h.map State.timerDisarm
  | reserved6 | reserved7 => rfl

/-- A response waiting for the turnaround, or being sent, has been written (R30, R37). -/
theorem State.Inv.txWritten_pos (hs : s.Inv) (hst : s.state = .startingTransmission) : 0 < s.txWritten := by
  have hrow := hs.row
  simp only [State.rowHolds, hst] at hrow
  obtain ⟨-, -, hlen, -⟩ := hrow
  rw [State.txWritten_of_none (hs.wordsDone_of_ne (by simp [hst]))]
  obtain h | ⟨-, h, -⟩ := hlen <;> omega

theorem State.SameLive.exec_tick (h : s.SameLive t) (hs : s.Inv) (ht : t.Inv) :
    SameLiveResult (exec .tick s) (exec .tick t) := by
  have hcount := h.map State.timerCount
  simp only [exec, execTick, checked_of_legal hs.legal, checked_of_legal ht.legal, h.same State.tmrEn,
    h.same State.tickExpires]
  split
  · split
    · exact hcount.expire hs.txWritten_pos
    · exact hcount
  · exact h

/-! ### The transmit side -/

theorem State.SameLive.exec_txReady (h : s.SameLive t) (hs : s.Inv) (ht : t.Inv) :
    SameLiveResult (exec .txReady s) (exec .txReady t) := by
  simp only [exec, execTxReady, checked_of_legal hs.legal, checked_of_legal ht.legal, h.same State.state,
    h.same State.txcur, h.same State.txlen]
  split
  · next hc =>
    obtain ⟨hst, hlt⟩ := hc
    have hwritten := State.txWritten_of_none (hs.wordsDone_of_ne (by simp [hst]))
    rw [← h.tx s.txcur.toNat (hwritten ▸ hlt)]
    exact h.map fun u => { u.emit (.txByte (s.txbuf.read s.txcur.toNat)) with txcur := s.txcur + 1 }
  · exact h

theorem State.SameLive.exec_txComplete (h : s.SameLive t) (hs : s.Inv) (ht : t.Inv) :
    SameLiveResult (exec .txComplete s) (exec .txComplete t) := by
  simp only [exec, execTxComplete, checked_of_legal hs.legal, checked_of_legal ht.legal, h.same State.state,
    h.same State.txcur, h.same State.txlen]
  split
  · exact h.frameReset
  · exact h

/-! ### The control port and POWER_ON -/

theorem State.SameLive.exec_loopRead (h : s.SameLive t) (hs : s.Inv) (ht : t.Inv) (k : LoopIndex) :
    SameLiveResult (exec (.loopRead k) s) (exec (.loopRead k) t) := by
  simp only [exec, execLoopRead, checked_of_legal hs.legal, checked_of_legal ht.legal, h.same State.n]
  split
  · exact h.map fun u => u.emit (.loopValue (u.reg k.toNat))
  · rfl

theorem State.SameLive.exec_loopWrite (h : s.SameLive t) (hs : s.Inv) (ht : t.Inv) (k : LoopIndex) (v : Word) :
    SameLiveResult (exec (.loopWrite k v) s) (exec (.loopWrite k v) t) := by
  simp only [exec, execLoopWrite, checked_of_legal hs.legal, checked_of_legal ht.legal, h.same State.n]
  split
  · exact h.map (State.setReg k.toNat v)
  · rfl

/-- POWER_ON writes both buffers, with the same free values (R230, log 4). -/
theorem State.SameLive.exec_powerOn (h : s.SameLive t) (hs : s.Inv) (ht : t.Inv) :
    SameLiveResult (exec .powerOn s) (exec .powerOn t) := by
  simp only [exec, execPowerOn, checked_of_legal hs.legal, checked_of_legal ht.legal, h.same State.draws]
  exact State.SameLive.frameReset ⟨fun _ _ => rfl, fun _ _ => rfl,
    congrArg (fun u : State => { u with
      regs := u.params.regInit, devaddr := u.params.devaddrInit, draws := s.draws + 2 }) h.rest⟩

end Sys2Proof.Machine
end

section
/-! SUPPORT. The requests, and then every instruction that can be selected, answer alike in states that agree but for stale
buffer bytes (R38). -/

namespace Sys2Proof.Machine

variable {s t : State} {n : Nat}

/-! ### The response build -/

/-- Bytes written without a gap after those that agree agree too. -/
theorem State.AgreeTo.putTx (h : s.AgreeTo n t) (hs : s.txbuf.wf = true) (ht : t.txbuf.wf = true) {a : Nat}
    {bytes : List Byte} (ha : a ≤ n) (hcap : a + bytes.length ≤ cap) :
    (s.putTx a bytes).AgreeTo (a + bytes.length) (t.putTx a bytes) where
  rx := h.rx
  tx := fun x hx => by
    rw [State.putTx_txbuf, State.putTx_txbuf, Memory.read_writeList hs hcap, Memory.read_writeList ht hcap]
    split
    · rfl
    · exact h.tx x (by omega)
  rest := by
    conv_lhs => rw [h.rest]
    rfl

/-- A response whose bytes before the CRC agree is finished alike, and all of it is live (R103, R156). -/
theorem State.AgreeTo.appendCrc_handoff {m : Nat} (h : s.AgreeTo m t) (hs : s.txbuf.wf = true) (ht : t.txbuf.wf = true)
    (hcap : m + 2 ≤ cap) : (s.appendCrc m).handoff.SameLive (t.appendCrc m).handoff := by
  have hcrc : t.txbuf.bytes 0 m = s.txbuf.bytes 0 m :=
    Memory.bytes_congr fun k hk => by simpa using (h.tx k hk).symm
  have hput := h.putTx hs ht (bytes := [lo (crc16 (s.txbuf.bytes 0 m)), hi (crc16 (s.txbuf.bytes 0 m))]) le_rfl hcap
  unfold State.appendCrc
  rw [hcrc]
  refine (hput.map fun u => State.handoff { u with txlen := BitVec.ofNat 8 (m + 2) }).sameLive ?_
  rw [State.txWritten_of_none rfl]
  exact Nat.mod_le _ _

theorem State.AgreeTo.respond (h : s.AgreeTo 0 t) (hs : s.txbuf.wf = true) (ht : t.txbuf.wf = true) {payload : List Byte}
    (hcap : payload.length + 2 ≤ cap) : (s.respond payload).SameLive (t.respond payload) := by
  have hput := h.putTx hs ht (bytes := payload) le_rfl (by omega)
  rw [Nat.zero_add] at hput
  exact hput.appendCrc_handoff (Memory.writeList_wf hs (by omega)) (Memory.writeList_wf ht (by omega)) hcap

theorem State.AgreeTo.mono {m : Nat} (h : s.AgreeTo n t) (hm : m ≤ n) : s.AgreeTo m t :=
  ⟨h.rx, fun a ha => h.tx a (by omega), h.rest⟩

theorem State.AgreeTo.exception (h : s.AgreeTo n t) (hs : s.Inv) (ht : t.Inv) (function code : Byte) :
    (s.exception function code).SameLive (t.exception function code) := by
  unfold State.exception
  rw [h.same State.devaddr]
  exact (h.mono (Nat.zero_le n)).respond hs.txWf ht.txWf (by simp [cap])

/-! ### The requests -/

/-- `moveWord_of_invariant` for two states: what relates them before the loop, with the number of words moved, is kept by
each word access, and at the end of the response and between two words gives what relates the states answered. -/
theorem moveWord_related {R : Nat → State → State → Prop} {Q : State → State → Prop} {count : Nat}
    {access : Nat → State → State} {finish : State → State} (hdone : t.wordsDone = s.wordsDone)
    (hle : s.wordsDone.getD 0 ≤ count) (h : R (s.wordsDone.getD 0) s t)
    (haccess : ∀ j u v, j < count → R j u v → R (j + 1) (access j u) (access j v))
    (hfinish : ∀ u v, R count u v → Q (finish u) (finish v))
    (hmid : ∀ j u v, j < count → R j u v → Q { u with wordsDone := some j } { v with wordsDone := some j }) :
    Q (moveWord count access finish s) (moveWord count access finish t) := by
  unfold moveWord
  rw [hdone]
  generalize s.wordsDone.getD 0 = j at *
  by_cases hj : j < count
  · have hnext := haccess j s t hj h
    by_cases hlast : j + 1 < count
    · simpa [hj, hlast] using hmid _ _ _ hlast hnext
    · have heq : j + 1 = count := by omega
      simpa [hj, hlast] using hfinish _ _ (heq ▸ hnext)
  · have heq : j = count := by omega
    simpa [hj] using hfinish _ _ (heq ▸ h)

/-- Two PROCESS steps that move the words of one request, and agree but for stale bytes. -/
structure State.MovingAlike (start count : Word) (n : Nat) (s t : State) : Prop where
  left : s.Moving start count
  right : t.Moving start count
  agree : s.AgreeTo n t

/-- If one state moves the words of its request, so does one that agrees with it but for stale bytes. -/
theorem State.SameLive.movingAlike {start count : Word} (h : s.SameLive t) (hm : s.Moving start count) (ht : t.Inv) :
    s.MovingAlike start count s.txWritten t where
  left := hm
  right := ⟨ht, (h.same State.state).trans hm.processing, h.pendingRequest ▸ hm.request,
    (h.same fun u => u.inRange start count).trans hm.range⟩
  agree := h.agreeTo

theorem State.MovingAlike.mono {start count : Word} {m : Nat} (h : s.MovingAlike start count n t) (hm : m ≤ n) :
    s.MovingAlike start count m t :=
  ⟨h.left, h.right, h.agree.mono hm⟩

theorem State.MovingAlike.putTx {start count : Word} (h : s.MovingAlike start count n t) {a : Nat} {bytes : List Byte}
    (ha : a ≤ n) (hcap : a + bytes.length ≤ cap) :
    (s.putTx a bytes).MovingAlike start count (a + bytes.length) (t.putTx a bytes) :=
  ⟨h.left.putTx hcap, h.right.putTx hcap, h.agree.putTx h.left.inv.txWf h.right.inv.txWf ha hcap⟩

theorem State.MovingAlike.setReg {start count : Word} (h : s.MovingAlike start count n t) (i : Nat) (v : Word) :
    (s.setReg i v).MovingAlike start count n (t.setReg i v) :=
  ⟨h.left.setReg i v, h.right.setReg i v, h.agree.map (State.setReg i v)⟩

/-- No more words have been moved than the request has (R58). -/
theorem State.Moving.wordsDone_le {start count : Word} (h : s.Moving start count) :
    s.wordsDone.getD 0 ≤ count.toNat := by
  have hmid := h.inv.mid
  cases hw : s.wordsDone with
  | none => exact Nat.zero_le _
  | some j =>
    rw [State.midHolds, hw] at hmid
    obtain ⟨-, -, start', count', hreq, -, hlt⟩ := hmid
    rw [h.request] at hreq
    cases hreq
    exact hlt.le

/-- The words left, and the header at the first word, are the same in both (R144). -/
theorem State.MovingAlike.fc03Begin {start count : Word} (h : s.MovingAlike start count s.txWritten t)
    (h3 : s.rxbuf.read 1 = 0x03) :
    (fc03Begin count s).MovingAlike start count (3 + 2 * s.wordsDone.getD 0) (fc03Begin count t) := by
  unfold Machine.fc03Begin fc03Header
  rw [h.agree.same State.wordsDone, h.agree.same State.devaddr]
  cases hw : s.wordsDone with
  | none =>
    exact h.putTx (a := 0) (bytes := [s.devaddr, 0x03, BitVec.ofNat 8 (2 * count.toNat)]) (Nat.zero_le _) (by simp [cap])
  | some j =>
    have hn : s.txWritten = 3 + 2 * j := by simp [State.txWritten, hw, h3]
    simpa [hn] using h

theorem fc03Begin_wordsDone (count : Word) (s : State) : (fc03Begin count s).wordsDone = s.wordsDone := by
  unfold fc03Begin
  split <;> rfl

theorem State.MovingAlike.fc03Word {start count : Word} {j : Nat} (h : s.MovingAlike start count (3 + 2 * j) t)
    (hj : j < count.toNat) :
    (fc03Word start j s).MovingAlike start count (3 + 2 * (j + 1)) (fc03Word start j t) := by
  have hn := h.left.inv.legal.n_le
  have hle := State.count_le_n h.left.range
  unfold Machine.fc03Word
  rw [h.agree.same (fun u => u.reg (start.toNat + j))]
  exact h.putTx (bytes := [hi (s.reg (start.toNat + j)), lo (s.reg (start.toNat + j))]) le_rfl (by simp [cap]; omega)

theorem State.SameLive.fc03Step {start count : Word} (h : s.SameLive t) (hs : s.Inv) (ht : t.Inv)
    (hp : s.state = .processing) (hreq : s.pendingRequest.bind Instr.wordRange = some (start, count))
    (h3 : s.rxbuf.read 1 = 0x03) : (fc03Step start count s).SameLive (fc03Step start count t) := by
  rw [fc03Step_eq, fc03Step_eq, h.same fun u => u.inRange start count]
  split
  · next hrange =>
    have hbegin := (h.movingAlike ⟨hs, hp, hreq, hrange⟩ ht).fc03Begin h3
    rw [← fc03Begin_wordsDone count s] at hbegin
    refine moveWord_related (R := fun j u v => u.MovingAlike start count (3 + 2 * j) v) (Q := State.SameLive)
      (hbegin.agree.same State.wordsDone) hbegin.left.wordsDone_le hbegin (fun j u v hj huv => huv.fc03Word hj)
      (fun u v huv => ?_) fun j u v _ huv => ?_
    · have hn := huv.left.inv.legal.n_le
      have hle := State.count_le_n huv.left.range
      exact huv.agree.appendCrc_handoff huv.left.inv.txWf huv.right.inv.txWf (by unfold cap; omega)
    · refine (huv.agree.map fun u => { u with wordsDone := some j }).sameLive ?_
      simp only [State.txWritten]
      split <;> omega
  · exact h.agreeTo.exception hs ht 0x03 2

theorem State.SameLive.fc06Step (h : s.SameLive t) (hs : s.Inv) (ht : t.Inv) (address value : Word) :
    (fc06Step address value s).SameLive (fc06Step address value t) := by
  unfold Machine.fc06Step
  rw [h.same State.n]
  split
  · rw [h.same State.devaddr]
    exact ((h.agreeTo.mono (Nat.zero_le _)).map (State.setReg address.toNat value)).respond hs.txWf ht.txWf (by simp [cap])
  · exact h.agreeTo.exception hs ht 0x06 2

theorem State.SameLive.fc16Step {start count : Word} (h : s.SameLive t) (hs : s.Inv) (ht : t.Inv)
    (hp : s.state = .processing) (hreq : s.pendingRequest.bind Instr.wordRange = some (start, count))
    (h3 : s.rxbuf.read 1 ≠ 0x03) (words : List Word) :
    (fc16Step start count words s).SameLive (fc16Step start count words t) := by
  unfold Machine.fc16Step
  rw [h.same fun u => u.inRange start count]
  split
  · next hrange =>
    have hmoving : s.MovingAlike start count 0 t :=
      (h.movingAlike ⟨hs, hp, hreq, hrange⟩ ht).mono (Nat.zero_le _)
    refine moveWord_related (R := fun _ u v => u.MovingAlike start count 0 v ∧ u.rxbuf.read 1 ≠ 0x03)
      (Q := State.SameLive) (h.same State.wordsDone) hmoving.left.wordsDone_le ⟨hmoving, h3⟩
      (fun j u v _ ⟨huv, hu3⟩ => ⟨huv.setReg _ _, hu3⟩) (fun u v ⟨huv, _⟩ => ?_) fun j u v _ ⟨huv, hu3⟩ => ?_
    · unfold fc16Finish
      rw [huv.agree.same State.devaddr]
      exact huv.agree.respond huv.left.inv.txWf huv.right.inv.txWf (by simp [cap])
    · exact (huv.agree.map fun u => { u with wordsDone := some j }).sameLive (if_neg hu3).le
  · exact h.agreeTo.exception hs ht 0x10 2

/-- Where it is in Processing, two states with one next state each answer alike. -/
theorem inProcessing_sameLive {k l : State} (h : s.SameLive t) (hs : s.Inv) (ht : t.Inv)
    (hkl : s.state = .processing → k.SameLive l) : SameLiveResult (inProcessing s k) (inProcessing t l) := by
  simp only [inProcessing, checked_of_legal hs.legal, checked_of_legal ht.legal, h.same State.state]
  split
  · next hp => exact hkl hp
  · rfl

/-- The request in the receive buffer answers alike (R140). -/
theorem State.SameLive.exec_requestOf (h : s.SameLive t) (hs : s.Inv) (ht : t.Inv)
    (hreq : s.pendingRequest = some (requestOf s.frame)) (hlen : 8 ≤ s.frame.length) :
    SameLiveResult (exec (requestOf s.frame) s) (exec (requestOf s.frame) t) := by
  have hfunction : byteAt s.frame 1 = s.rxbuf.read 1 := s.byteAt_frame 1 (by simp at hlen; omega)
  by_cases h3 : byteAt s.frame 1 = 0x03
  · rw [requestOf, if_pos h3] at hreq ⊢
    exact inProcessing_sameLive h hs ht fun hp => h.fc03Step hs ht hp (by rw [hreq]; rfl) (hfunction ▸ h3)
  · by_cases h6 : byteAt s.frame 1 = 0x06
    · rw [requestOf, if_neg h3, if_pos h6]
      exact inProcessing_sameLive h hs ht fun _ => h.fc06Step hs ht _ _
    · rw [requestOf, if_neg h3, if_neg h6] at hreq ⊢
      exact inProcessing_sameLive h hs ht fun hp => h.fc16Step hs ht hp (by rw [hreq]; rfl) (hfunction ▸ h3) _

theorem State.SameLive.exec_process (h : s.SameLive t) (hs : s.Inv) (ht : t.Inv) :
    SameLiveResult (exec .process s) (exec .process t) := by
  simp only [exec, execProcess, checked_of_legal hs.legal, checked_of_legal ht.legal, h.same State.state,
    h.same State.params, h.frame]
  split
  · cases hd : decodeFrame s.params.crcCheck s.params.fc16Base s.frame with
    | ok i =>
      obtain ⟨hlen, -, -, rfl⟩ := decodeFrame_eq_ok.1 hd
      simp only [runRequest_requestOf]
      exact h.exec_requestOf hs ht (by simp [State.pendingRequest, hd, Except.toOption]) hlen
    | error r =>
      cases r with
      | badCrc => exact h.frameReset
      | unknownKind | unusedField | frameTooShort | unknownFunction | frameLength => rfl
  · rfl

/-! ### The step -/

/-- Every instruction that can be selected answers alike in states that agree but for stale buffer bytes. -/
theorem State.SameLive.exec {i : Instr} (h : s.SameLive t) (hs : s.Inv) (ht : t.Inv) (hi : Instr.wordRange i = none) :
    SameLiveResult (exec i s) (exec i t) := by
  cases i with
  | rxByte b => exact h.exec_rxByte hs ht b
  | tick => exact h.exec_tick hs ht
  | txReady => exact h.exec_txReady hs ht
  | txComplete => exact h.exec_txComplete hs ht
  | reset =>
    simp only [Machine.exec, execReset, checked_of_legal hs.legal, checked_of_legal ht.legal]
    exact h.frameReset
  | setAddr a =>
    simp only [Machine.exec, execSetAddr, checked_of_legal hs.legal, checked_of_legal ht.legal]
    exact h.map fun u => { u with devaddr := a }
  | loopRead k => exact h.exec_loopRead hs ht k
  | loopWrite k v => exact h.exec_loopWrite hs ht k v
  | fc03 addr start count => cases hi
  | fc06 addr address value => exact inProcessing_sameLive h hs ht fun _ => h.fc06Step hs ht address value
  | fc16 addr start count byteCount words => cases hi
  | powerOn => exact h.exec_powerOn hs ht
  | process => exact h.exec_process hs ht

/-- A selection with the buffers of its state replaced. -/
def Selection.withBuffers (rx tx : Memory) : Selection → Selection
  | .run i s => .run i (s.withBuffers rx tx)
  | .wait s => .wait (s.withBuffers rx tx)
  | .badEvent => .badEvent

theorem eventTurn_withBuffers (w : EventWord) (rx tx : Memory) (s : State) :
    eventTurn w (s.withBuffers rx tx) = (eventTurn w s).withBuffers rx tx := by
  unfold eventTurn
  split <;> rfl

theorem dispatcherTurn_withBuffers (rx tx : Memory) (s : State) :
    dispatcherTurn (s.withBuffers rx tx) = (dispatcherTurn s).withBuffers rx tx :=
  (apply_ite (Selection.withBuffers rx tx) (s.state = .processing) (.run .process s) (.wait s)).symm

theorem selectMid_withBuffers (rx tx : Memory) (s : State) :
    selectMid (s.withBuffers rx tx) = (selectMid s).withBuffers rx tx := by
  have hin : (s.withBuffers rx tx).input = s.input := rfl
  unfold selectMid
  rw [hin]
  cases s.input with
  | nil => rfl
  | cons turn rest =>
    cases turn with
    | event w | dispatcher | powerOn => rfl
    | between w =>
      dsimp only
      cases decodeEvent w with
      | error r => rfl
      | ok i => cases hi : i.isLoopPort <;> simp only [hi] <;> rfl

/-- What comes next is no matter of the buffers. -/
theorem select_withBuffers (rx tx : Memory) (s : State) :
    select (s.withBuffers rx tx) = (select s).withBuffers rx tx := by
  have hin : (s.withBuffers rx tx).input = s.input := rfl
  have hmid : (s.withBuffers rx tx).midProcess = s.midProcess := rfl
  unfold select
  rw [hin, hmid]
  cases s.midProcess with
  | true => exact selectMid_withBuffers rx tx s
  | false =>
    cases s.input with
    | nil => exact dispatcherTurn_withBuffers rx tx s
    | cons turn rest =>
      cases turn with
      | dispatcher => exact dispatcherTurn_withBuffers rx tx { s with input := rest }
      | powerOn => rfl
      | event w | between w => exact eventTurn_withBuffers w rx tx { s with input := rest }

end Sys2Proof.Machine
end

section
/-! PROOFS. The state of the block: its status outputs, the reserved codes, the invariant table, and stale buffer bytes
(10_state.md R24, R31, R32, R37, R38). -/

namespace Sys2Proof.Proofs.BlockState

open Sys2Proof.Machine

/-- Settles O50, by the code of STATE. -/
theorem statusOutputs : Obligations.StatusOutputs := by
  intro s
  refine ⟨by simp [State.quiet], ?_⟩
  unfold State.stateOut
  cases s.state <;> decide

/-- Settles O49: the guard refuses a reserved code, and every instruction answers legal states only. -/
theorem reservedStateCodes : Obligations.ReservedStateCodes := by
  refine ⟨fun s hv hn hout => ?_, fun i s t h => ?_⟩
  · have hbad := State.illegal_of_isReserved hv hn (s.isReserved_iff_stateOut.2 hout)
    exact ⟨step_of_illegal hbad, exec_of_illegal hbad⟩
  · rw [← not_or, ← State.isReserved_iff_stateOut, (exec_legal h).not_reserved]
    decide

/-- Settles O51: the state right after POWER_ON is in the row of Idle, and nothing is transmitted there. -/
theorem invariantAfterPowerOn : Obligations.InvariantAfterPowerOn :=
  ⟨fun _ hp => State.afterPowerOn_inv hp, State.afterPowerOn_inv (by decide), fun _ _ h => SlaveState.noConfusion h⟩

/-- Settles O52: a step waits, or runs an instruction that keeps the invariant, in both cases with at most a turn taken. -/
theorem stepKeepsTheInvariant : Obligations.StepKeepsTheInvariant := by
  intro s t hs h
  obtain ⟨i, u, hsel, hexec⟩ | ⟨hsel, -⟩ := step_cases h
  · obtain ⟨rest, rfl⟩ := select_state.1 i u hsel
    exact (hs.withInput rest).exec (select_wordRange hsel) hexec
  · obtain ⟨rest, rfl⟩ := select_state.2 t hsel
    exact hs.withInput rest

/-- Settles O59: the same is selected, and it answers alike. -/
theorem staleBytesAreUnobservable : Obligations.StaleBytesAreUnobservable := by
  intro s t hs ht h
  have hsel : select t = (select s).withBuffers t.rxbuf t.txbuf := by
    conv_lhs => rw [h.agreeTo.rest]
    exact select_withBuffers _ _ s
  have hturns (rest : List Turn) :
      State.withBuffers t.rxbuf t.txbuf { s with input := rest } = { t with input := rest } :=
    congrArg (fun u : State => { u with input := rest }) h.agreeTo.rest.symm
  unfold step
  rw [hsel]
  cases hs' : select s with
  | run i u =>
    obtain ⟨rest, rfl⟩ := select_state.1 i u hs'
    simp only [Selection.withBuffers, hturns]
    exact (h.map fun u => { u with input := rest }).exec (hs.withInput rest) (ht.withInput rest) (select_wordRange hs')
  | wait u =>
    obtain ⟨rest, rfl⟩ := select_state.2 u hs'
    simp only [Selection.withBuffers, hturns, checked_of_legal hs.legal, checked_of_legal ht.legal]
    exact h.map fun u => { u with input := rest }
  | badEvent =>
    simp only [Selection.withBuffers, checked_of_legal hs.legal, checked_of_legal ht.legal]
    rfl

end Sys2Proof.Proofs.BlockState
end

section
/-! SUPPORT. Rules of the register map's accesses: what LOOP_READ and LOOP_WRITE answer, a register written, the words of
FC03 and FC16 one access a step, and the response that each of them leaves in TXBUF. -/

namespace Sys2Proof.Machine

variable {s t : State}

/-! ### The loop port -/

/-- Writing a register that exists writes that register alone (R59). -/
theorem State.setReg_registerWritten {i : Nat} (hi : i < s.regs.length) (v : Word) :
    (s.setReg i v).registerWritten s i v := by
  refine ⟨?_, fun k hk => ?_⟩
  · rw [State.setReg_regs, List.getElem?_set_self hi]
  · rw [State.setReg_regs, List.getElem?_set_ne (Ne.symm hk)]

/-- An index of N or more is refused (R67). -/
theorem exec_loopRead_of_ge (hl : s.Legal) {k : LoopIndex} (hk : s.n ≤ k.toNat) :
    exec (.loopRead k) s = .refused .loopIndex := by
  simp [exec, execLoopRead, hl, Nat.not_lt.2 hk]

/-- An index of N or more is refused (R67). -/
theorem exec_loopWrite_of_ge (hl : s.Legal) {k : LoopIndex} (hk : s.n ≤ k.toNat) (v : Word) :
    exec (.loopWrite k v) s = .refused .loopIndex := by
  simp [exec, execLoopWrite, hl, Nat.not_lt.2 hk]

/-- While a PROCESS step is under way, an access of the control loop that is to come between two words is taken (R58). -/
theorem select_between_of_mid {w : EventWord} {i : Instr} {rest : List Turn} (hm : s.midProcess = true)
    (hin : s.input = .between w :: rest) (hd : decodeEvent w = .ok i) (hi : i.isLoopPort = true) :
    select s = .run i { s with input := rest } := by
  simp [select, selectMid, hm, hin, hd, hi]

/-! ### The response build -/

/-- Consecutive bytes, cut in two. -/
theorem Memory.bytes_add (m : Memory) (a n k : Nat) : m.bytes a (n + k) = m.bytes a n ++ m.bytes (a + n) k := by
  induction n generalizing a with
  | zero => simp [Memory.bytes]
  | succ n ih => simp [Memory.bytes, Nat.succ_add, ih, Nat.add_assoc]

/-- Outside the two bytes of the CRC, TXBUF is as it was (R103). -/
theorem State.appendCrc_read (hw : s.txbuf.wf = true) {m : Nat} (hm : m + 2 ≤ cap) {k : Nat} (hk : k < m ∨ m + 2 ≤ k) :
    (s.appendCrc m).txbuf.read k = s.txbuf.read k := by
  rw [State.appendCrc_txbuf, Memory.read_writeList hw hm, if_neg]
  simp only [List.length_cons, List.length_nil]
  omega

/-- The bytes of a finished response are those before the CRC, with their CRC (R103). -/
theorem State.appendCrc_bytes (hw : s.txbuf.wf = true) {m : Nat} (hm : m + 2 ≤ cap) :
    (s.appendCrc m).txbuf.bytes 0 (m + 2) = withCrc (s.txbuf.bytes 0 m) := by
  have hbody : (s.appendCrc m).txbuf.bytes 0 m = s.txbuf.bytes 0 m :=
    Memory.bytes_congr fun k hk => State.appendCrc_read hw hm (by omega)
  have hcrc := Memory.bytes_writeList hw (a := m)
    (bytes := [lo (crc16 (s.txbuf.bytes 0 m)), hi (crc16 (s.txbuf.bytes 0 m))]) hm
  rw [Memory.bytes_add, hbody, Nat.zero_add]
  exact congrArg _ hcrc

/-- TXLEN holds the length of a response that fits the buffer (R30). -/
theorem State.appendCrc_txlen_toNat {m : Nat} (hm : m + 2 ≤ cap) : (s.appendCrc m).txlen.toNat = m + 2 :=
  Nat.mod_eq_of_lt (by unfold cap at hm; omega)

/-- A response built in one go is its payload with the CRC, and nothing past it is touched (R155, R156). -/
theorem State.respond_answeredFrom (hw : s.txbuf.wf = true) {payload : List Byte} (hlen : payload.length + 2 ≤ cap) :
    (s.respond payload).answeredFrom s (withCrc payload) := by
  have hput : (s.putTx 0 payload).txbuf.wf = true := Memory.writeList_wf hw (by omega)
  have hbytes : (s.respond payload).txbuf.bytes 0 (payload.length + 2) = withCrc payload :=
    (State.appendCrc_bytes hput hlen).trans (congrArg withCrc (Memory.bytes_writeList hw (by omega)))
  refine ⟨?_, fun a ha => ?_, ?_, rfl, rfl, rfl, rfl, rfl, rfl, rfl, rfl, rfl, rfl, rfl, rfl, rfl, rfl, rfl⟩
  · rw [length_withCrc, hbytes]
  · rw [length_withCrc] at ha
    rw [State.respond_read s payload hw hlen, if_neg (Nat.not_lt.2 ha)]
  · rw [length_withCrc]
    exact State.appendCrc_txlen_toNat (s := s.putTx 0 payload) hlen

/-! ### The dispatcher's loop, case by case -/

section
variable {count : Nat} {access : Nat → State → State} {finish : State → State}

/-- With no word left the response is finished at once (R58). -/
theorem moveWord_of_le (h : count ≤ s.wordsDone.getD 0) : moveWord count access finish s = finish s := by
  obtain ⟨-, hm⟩ | ⟨hj, -⟩ | ⟨hj, -⟩ := moveWord_cases count access finish s
  · exact hm
  all_goals omega

/-- The last word is moved and the response finished in one step (R58). -/
theorem moveWord_last (h : s.wordsDone.getD 0 + 1 = count) :
    moveWord count access finish s = finish (access (s.wordsDone.getD 0) s) := by
  obtain ⟨hj, -⟩ | ⟨-, hm⟩ | ⟨hj, -⟩ := moveWord_cases count access finish s
  · omega
  · exact hm
  · omega

/-- With words left after it a word is moved, and the step ends (R58). -/
theorem moveWord_between (h : s.wordsDone.getD 0 + 1 < count) :
    moveWord count access finish s =
      { access (s.wordsDone.getD 0) s with wordsDone := some (s.wordsDone.getD 0 + 1) } := by
  obtain ⟨hj, -⟩ | ⟨hj, -⟩ | ⟨-, hm⟩ := moveWord_cases count access finish s
  · omega
  · omega
  · exact hm

end

/-! ### FC06 and FC16 -/

/-- A request in Processing answers its step (R140). -/
theorem inProcessing_of_legal (hl : s.Legal) (hp : s.state = .processing) (k : State) : inProcessing s k = .next k :=
  inProcessing_eq_next.2 ⟨hl, hp, rfl⟩

/-- FC06 of a register that exists writes it and builds the echo (R147). -/
theorem fc06Step_of_lt {address : Word} (h : address.toNat < s.n) (value : Word) :
    fc06Step address value s =
      (s.setReg address.toNat value).respond [s.devaddr, 0x06, hi address, lo address, hi value, lo value] :=
  if_pos h

/-- FC16 of registers that exist runs the dispatcher's loop (R150, R151). -/
theorem fc16Step_of_inRange {start count : Word} (h : start.toNat + count.toNat ≤ s.n) (words : List Word) :
    fc16Step start count words s = moveWord count.toNat (fc16Word start words) (fc16Finish start count) s :=
  if_pos (decide_eq_true h)

/-- The echo of FC16 in TXBUF (R152). -/
theorem fc16Finish_answeredFrom (hw : s.txbuf.wf = true) (start count : Word) :
    (fc16Finish start count s).answeredFrom s (withCrc [s.devaddr, 0x10, hi start, lo start, hi count, lo count]) :=
  State.respond_answeredFrom hw (by simp [cap])

/-- A word access of FC16 writes one register with one payload word (R59, R151). -/
theorem fc16Word_registerWritten {start : Word} {words : List Word} {j : Nat} {v : Word}
    (hreg : start.toNat + j < s.regs.length) (hv : words[j]? = some v) :
    (fc16Word start words j s).registerWritten s (start.toNat + j) v := by
  have hword : fc16Word start words j s = s.setReg (start.toNat + j) v := by
    simp [fc16Word, List.getD_eq_getElem?_getD, hv]
  exact hword ▸ State.setReg_registerWritten hreg v

/-! ### FC03 -/

/-- FC03 of registers that exist runs the dispatcher's loop (R143, R144). -/
theorem fc03Step_of_inRange {start count : Word} (h : start.toNat + count.toNat ≤ s.n) :
    fc03Step start count s =
      moveWord count.toNat (fc03Word start) (fc03Finish count) (fc03Begin count s) :=
  if_pos (decide_eq_true h)

/-- FC03 of one register answers it in one step (R144). -/
theorem fc03Step_one {start : Word} (h : start.toNat + 1 ≤ s.n) (hw : s.wordsDone = none) :
    fc03Step start 1 s = s.respond [s.devaddr, 0x03, 2, hi (s.reg start.toNat), lo (s.reg start.toNat)] := by
  have hbegin : fc03Begin 1 s = fc03Header 1 s := if_pos hw
  have hdone : (fc03Header 1 s).wordsDone.getD 0 = 0 := congrArg (·.getD 0) hw
  rw [fc03Step_of_inRange h, hbegin, moveWord_last (by rw [hdone]; rfl), hdone]
  rfl

/-- A word access of FC03 writes the word's two bytes of TXBUF, high byte first (R144). -/
theorem fc03Word_read (hw : s.txbuf.wf = true) {j : Nat} (hj : 5 + 2 * j ≤ cap) (start : Word) (k : Nat) :
    (fc03Word start j s).txbuf.read k =
      if k = 3 + 2 * j then hi (s.reg (start.toNat + j))
      else if k = 4 + 2 * j then lo (s.reg (start.toNat + j)) else s.txbuf.read k := by
  unfold fc03Word
  have h4 : 3 + 2 * j + 1 = 4 + 2 * j := by omega
  rw [State.putTx_txbuf, Memory.writeList, Memory.writeList, Memory.writeList, h4,
    Memory.read_write (Memory.write_wf hw (by omega) _), Memory.read_write hw]
  by_cases h3 : k = 3 + 2 * j
  · rw [if_neg (by omega), if_pos h3, if_pos h3]
  · rw [if_neg h3, if_neg h3]

/-- What TXBUF holds where FC03's loop begins: the header, if no word has been moved; every other byte as before (R144). -/
theorem fc03Begin_read (hw : s.txbuf.wf = true) (count : Word) (k : Nat) :
    (fc03Begin count s).txbuf.read k =
      if s.wordsDone = none ∧ k < 3 then byteAt [s.devaddr, 0x03, BitVec.ofNat 8 (2 * count.toNat)] k
      else s.txbuf.read k := by
  unfold fc03Begin
  by_cases hd : s.wordsDone = none
  · rw [if_pos hd, fc03Header, State.putTx_txbuf, Memory.read_writeList hw (by simp [cap])]
    simp [hd, byteAt]
  · rw [if_neg hd, if_neg fun h => hd h.1]

/-- FC03's loop begins with every byte as it was but for the header at the first word. -/
theorem fc03Begin_read_other (hw : s.txbuf.wf = true) (count : Word) {k : Nat} (hk : 3 ≤ k ∨ s.wordsDone ≠ none) :
    (fc03Begin count s).txbuf.read k = s.txbuf.read k := by
  rw [fc03Begin_read hw, if_neg]
  rintro ⟨hd, hlt⟩
  exact hk.elim (Nat.not_le.2 hlt) fun hne => hne hd

theorem fc03Begin_wf (hw : s.txbuf.wf = true) (count : Word) : (fc03Begin count s).txbuf.wf = true := by
  unfold fc03Begin
  split
  · exact Memory.writeList_wf hw (by simp [cap])
  · exact hw

/-- FC03's loop begins with nothing but TXBUF changed. -/
theorem fc03Begin_eq (count : Word) (s : State) : fc03Begin count s = { s with txbuf := (fc03Begin count s).txbuf } := by
  unfold fc03Begin
  split <;> rfl

theorem fc03Begin_reg (count : Word) (s : State) : (fc03Begin count s).reg = s.reg := by
  rw [fc03Begin_eq]
  rfl

/-- What TXBUF (`m`) holds after one step of FC03 in `s`, before the CRC: the header, if it is the first step, and the next
word, if one is left; every other byte as it was (R144). -/
structure State.Fc03Moved (start count : Word) (s : State) (m : Memory) : Prop where
  wf : m.wf = true
  header : s.wordsDone = none →
    m.read 0 = s.devaddr ∧ m.read 1 = 0x03 ∧ m.read 2 = BitVec.ofNat 8 (2 * count.toNat)
  word : s.wordsDone.getD 0 < count.toNat →
    m.read (3 + 2 * s.wordsDone.getD 0) = hi (s.reg (start.toNat + s.wordsDone.getD 0)) ∧
      m.read (4 + 2 * s.wordsDone.getD 0) = lo (s.reg (start.toNat + s.wordsDone.getD 0))
  otherBytes : ∀ k,
    (s.wordsDone.getD 0 < count.toNat → k ≠ 3 + 2 * s.wordsDone.getD 0 ∧ k ≠ 4 + 2 * s.wordsDone.getD 0) →
    3 ≤ k ∨ s.wordsDone ≠ none → m.read k = s.txbuf.read k

/-- With no word left only the header is written. -/
theorem fc03Begin_moved {start count : Word} (hw : s.txbuf.wf = true) (hj : count.toNat ≤ s.wordsDone.getD 0) :
    s.Fc03Moved start count (fc03Begin count s).txbuf where
  wf := fc03Begin_wf hw count
  header := fun hd => by simp [fc03Begin_read hw, hd, byteAt]
  word := fun hlt => absurd hlt (Nat.not_lt.2 hj)
  otherBytes := fun _ _ hk => fc03Begin_read_other hw count hk

/-- With a word left it is read into its two bytes, after the header at the first word. -/
theorem fc03Word_moved {start count : Word} (hw : s.txbuf.wf = true) (hj : s.wordsDone.getD 0 < count.toNat)
    (hcap : 5 + 2 * s.wordsDone.getD 0 ≤ cap) :
    s.Fc03Moved start count (fc03Word start (s.wordsDone.getD 0) (fc03Begin count s)).txbuf := by
  have hbw := fc03Begin_wf hw count
  have hread := fc03Word_read hbw hcap start
  rw [fc03Begin_reg] at hread
  refine ⟨Memory.writeList_wf hbw (by simp only [List.length_cons, List.length_nil]; omega), fun hd => ?_, fun _ => ?_,
    fun k hword hk => ?_⟩
  · simp only [hread]
    simp [fc03Begin_read hw, hd, byteAt]
  · simp [hread]
  · obtain ⟨h3, h4⟩ := hword hj
    rw [hread, if_neg h3, if_neg h4, fc03Begin_read_other hw count hk]

/-- One step of FC03 in range: one word at most is moved, and then the step ends between two words, or the response is
finished (R58, R144). -/
theorem fc03Step_cases {start count : Word} (hl : s.Legal) (hw : s.txbuf.wf = true)
    (h : start.toNat + count.toNat ≤ s.n) :
    ∃ m, s.Fc03Moved start count m ∧
      (s.wordsDone.getD 0 + 1 < count.toNat →
        fc03Step start count s = { s with txbuf := m, wordsDone := some (s.wordsDone.getD 0 + 1) }) ∧
      (count.toNat ≤ s.wordsDone.getD 0 + 1 → fc03Step start count s = fc03Finish count { s with txbuf := m }) := by
  have hn := hl.n_le
  have hdone : (fc03Begin count s).wordsDone.getD 0 = s.wordsDone.getD 0 :=
    congrArg (·.getD 0) (fc03Begin_wordsDone count s)
  have hword : fc03Word start (s.wordsDone.getD 0) (fc03Begin count s) =
      { s with txbuf := (fc03Word start (s.wordsDone.getD 0) (fc03Begin count s)).txbuf } :=
    congrArg (fun u => { u with txbuf := (fc03Word start (s.wordsDone.getD 0) (fc03Begin count s)).txbuf })
      (fc03Begin_eq count s)
  rw [fc03Step_of_inRange h]
  by_cases hj : count.toNat ≤ s.wordsDone.getD 0
  · refine ⟨_, fc03Begin_moved hw hj, fun hlt => by omega, fun _ => ?_⟩
    rw [moveWord_of_le (hdone ▸ hj), ← fc03Begin_eq]
  · refine ⟨_, fc03Word_moved hw (by omega) (by unfold cap; omega), fun hlt => ?_, fun hge => ?_⟩
    · rw [moveWord_between (hdone ▸ hlt), hdone, hword]
    · rw [moveWord_last (by omega), hdone, ← hword]

/-- The end of an FC03 response: the bytes before the CRC and those past it are as they were, the CRC is theirs, and TXLEN
counts them all (R103, R144). -/
theorem fc03Finish_txbuf (hw : s.txbuf.wf = true) {count : Word} (hcap : 5 + 2 * count.toNat ≤ cap) :
    (∀ k, k < 3 + 2 * count.toNat ∨ 5 + 2 * count.toNat ≤ k → (fc03Finish count s).txbuf.read k = s.txbuf.read k) ∧
      (fc03Finish count s).txlen.toNat = 5 + 2 * count.toNat ∧
      (fc03Finish count s).txbuf.bytes 0 (5 + 2 * count.toNat) =
        withCrc ((fc03Finish count s).txbuf.bytes 0 (3 + 2 * count.toNat)) := by
  have hlen : 5 + 2 * count.toNat = 3 + 2 * count.toNat + 2 := by omega
  rw [hlen] at hcap ⊢
  have hkeep (k : Nat) (hk : k < 3 + 2 * count.toNat ∨ 3 + 2 * count.toNat + 2 ≤ k) :
      (fc03Finish count s).txbuf.read k = s.txbuf.read k := State.appendCrc_read hw hcap hk
  have hbody : (fc03Finish count s).txbuf.bytes 0 (3 + 2 * count.toNat) = s.txbuf.bytes 0 (3 + 2 * count.toNat) :=
    Memory.bytes_congr fun k hk => hkeep _ (by omega)
  exact ⟨hkeep, State.appendCrc_txlen_toNat (s := s) hcap, hbody ▸ State.appendCrc_bytes hw hcap⟩

end Sys2Proof.Machine
end

section
/-! SUPPORT. Who writes the register map, DEVADDR and the parameters: each operation and each instruction keeps all three,
or all but what it is there to write (R22, R52). -/

namespace Sys2Proof.Machine

variable {s t : State}

/-- What only POWER_ON and SET_ADDR write: the parameters and DEVADDR (R22). -/
def State.setting (s : State) : Params × Byte := (s.params, s.devaddr)

/-- The setting and the register map (R52). -/
def State.holding (s : State) : (Params × Byte) × List Word := (s.setting, s.regs)

theorem State.setting_eq_iff : t.setting = s.setting ↔ t.params = s.params ∧ t.devaddr = s.devaddr := Prod.mk_inj

theorem State.holding_eq_iff : t.holding = s.holding ↔ t.setting = s.setting ∧ t.regs = s.regs := Prod.mk_inj

/-! ### Instructions that keep all three -/

theorem State.storeRx_holding (b : Byte) (s : State) : (s.storeRx b).holding = s.holding := by
  unfold State.storeRx
  split <;> rfl

theorem State.inspect_holding (s : State) : s.inspect.holding = s.holding := by
  obtain ⟨len, -, h⟩ | h := s.inspect_cases <;> rw [h] <;> rfl

theorem storeIdle_holding (b : Byte) (s : State) : (storeIdle b s).holding = s.holding := by
  unfold storeIdle
  split <;> exact s.storeRx_holding b

theorem rxIdle_holding (b : Byte) (s : State) : (rxIdle b s).holding = s.holding := by
  rw [rxIdle_eq]
  split
  · rw [State.inspect_holding, storeIdle_holding]
  · exact storeIdle_holding b s

theorem rxReceiving_holding (b : Byte) (s : State) : (rxReceiving b s).holding = s.holding := by
  simp only [rxReceiving]
  split <;> exact s.storeRx_holding b

theorem exec_rxByte_holding {b : Byte} (h : exec (.rxByte b) s = .next t) : t.holding = s.holding := by
  obtain ⟨-, ⟨-, rfl⟩ | ⟨-, rfl⟩ | ⟨-, rfl⟩ | ⟨-, rfl⟩⟩ := exec_rxByte_cases h
  · exact rxIdle_holding b s
  · exact rxReceiving_holding b s
  · exact s.storeRx_holding b
  · rfl

theorem exec_tick_holding (h : exec .tick s = .next t) : t.holding = s.holding := by
  obtain ⟨-, ⟨-, rfl⟩ | ⟨-, -, rfl⟩ | ⟨-, -, hexp⟩⟩ := exec_tick_cases h
  · rfl
  · rfl
  · obtain ⟨-, rfl⟩ | ⟨-, rfl⟩ | ⟨-, rfl⟩ := State.expire_cases _ _ hexp <;> rfl

theorem exec_txReady_holding (h : exec .txReady s = .next t) : t.holding = s.holding := by
  obtain ⟨-, ⟨-, -, rfl⟩ | ⟨-, rfl⟩⟩ := exec_txReady_cases h <;> rfl

theorem exec_txComplete_holding (h : exec .txComplete s = .next t) : t.holding = s.holding := by
  obtain ⟨-, ⟨-, -, rfl⟩ | ⟨-, rfl⟩⟩ := exec_txComplete_cases h <;> rfl

theorem exec_fc03_holding {addr : Byte} {start count : Word} (h : exec (.fc03 addr start count) s = .next t) :
    t.holding = s.holding := by
  obtain ⟨-, -, rfl⟩ := inProcessing_eq_next.1 h
  rw [fc03Step_eq]
  split
  · rw [moveWord_keeps State.holding _ (fc03Word start) (fc03Finish count) _ (fun _ _ => rfl) (fun _ _ => rfl)
      (fun _ => rfl)]
    unfold fc03Begin
    split <;> rfl
  · rfl

/-! ### Requests that write registers keep the setting -/

theorem exec_fc06_setting {addr : Byte} {address value : Word} (h : exec (.fc06 addr address value) s = .next t) :
    t.setting = s.setting := by
  obtain ⟨-, -, rfl⟩ := inProcessing_eq_next.1 h
  unfold fc06Step
  split <;> rfl

theorem exec_fc16_setting {addr byteCount : Byte} {start count : Word} {words : List Word}
    (h : exec (.fc16 addr start count byteCount words) s = .next t) : t.setting = s.setting := by
  obtain ⟨-, -, rfl⟩ := inProcessing_eq_next.1 h
  unfold fc16Step
  split
  · exact moveWord_keeps State.setting _ _ _ _ (fun _ _ => rfl) (fun _ _ => rfl) (fun _ => rfl)
  · rfl

theorem exec_requestOf_setting {frame : List Byte} (h : exec (requestOf frame) s = .next t) : t.setting = s.setting := by
  unfold requestOf at h
  split at h
  · exact (State.holding_eq_iff.1 (exec_fc03_holding h)).1
  · split at h
    · exact exec_fc06_setting h
    · exact exec_fc16_setting h

theorem exec_process_setting (h : exec .process s = .next t) : t.setting = s.setting := by
  obtain ⟨-, -, ⟨-, -, rfl⟩ | ⟨-, hreq⟩⟩ := exec_process_cases h
  · rfl
  · exact exec_requestOf_setting hreq

/-! ### Over all instructions -/

/-- An instruction that answers ran in a legal state (R7, R24). -/
theorem legal_of_exec {i : Instr} (h : exec i s = .next t) : s.Legal := by
  cases hs : s.illegal with
  | none => exact hs
  | some r =>
    rw [exec_of_illegal hs i] at h
    cases h

/-- An instruction that keeps the parameters keeps the number of registers: it is N before and after (R21). -/
theorem exec_regs_length {i : Instr} (h : exec i s = .next t) (hp : t.params = s.params) :
    t.regs.length = s.regs.length := by
  rw [(exec_legal h).regs_length, (legal_of_exec h).regs_length, State.n, State.n, hp]

/-- The instructions, POWER_ON left aside, that may write the register map (R52). -/
def WritesRegisters (i : Instr) : Prop :=
  i = .process ∨ (∃ k v, i = .loopWrite k v) ∨ (∃ a r v, i = .fc06 a r v) ∨ ∃ a st ct bc ws, i = .fc16 a st ct bc ws

/-- What an instruction can do to the setting and the register map: keep both, write registers alone if it is one that may,
or else it is SET_ADDR or POWER_ON (R22, R52). -/
theorem exec_writers_cases {i : Instr} (h : exec i s = .next t) :
    t.holding = s.holding ∨ (t.setting = s.setting ∧ WritesRegisters i) ∨
      (∃ a, i = .setAddr a ∧ t = { s with devaddr := a }) ∨ (i = .powerOn ∧ t.params = s.params) := by
  cases i with
  | rxByte b => exact .inl (exec_rxByte_holding h)
  | tick => exact .inl (exec_tick_holding h)
  | txReady => exact .inl (exec_txReady_holding h)
  | txComplete => exact .inl (exec_txComplete_holding h)
  | reset =>
    obtain ⟨-, rfl⟩ := exec_reset_eq_next.1 h
    exact .inl rfl
  | setAddr a =>
    obtain ⟨-, rfl⟩ := exec_setAddr_eq_next.1 h
    exact .inr (.inr (.inl ⟨a, rfl, rfl⟩))
  | loopRead k =>
    obtain ⟨-, -, rfl⟩ := exec_loopRead_eq_next.1 h
    exact .inl rfl
  | loopWrite k v =>
    obtain ⟨-, -, rfl⟩ := exec_loopWrite_eq_next.1 h
    exact .inr (.inl ⟨rfl, .inr (.inl ⟨k, v, rfl⟩)⟩)
  | fc03 addr start count => exact .inl (exec_fc03_holding h)
  | fc06 addr address value =>
    exact .inr (.inl ⟨exec_fc06_setting h, .inr (.inr (.inl ⟨addr, address, value, rfl⟩))⟩)
  | fc16 addr start count byteCount words =>
    exact .inr (.inl ⟨exec_fc16_setting h, .inr (.inr (.inr ⟨addr, start, count, byteCount, words, rfl⟩))⟩)
  | powerOn =>
    obtain ⟨-, rfl⟩ := exec_powerOn_eq_next.1 h
    exact .inr (.inr (.inr ⟨rfl, rfl⟩))
  | process => exact .inr (.inl ⟨exec_process_setting h, .inl rfl⟩)

end Sys2Proof.Machine
end

section
/-! PROOFS. The memory of the block: the register map through the loop port and through the requests, one word access at a
time (20_memory.md R52, R58 to R60, R65 to R67). -/

namespace Sys2Proof.Proofs.RegisterMap

open Sys2Proof.Machine

/-- Settles O30: an index that names a register is below N, and what is given out is that register. -/
theorem loopReadReturnsTheRegister : Obligations.LoopReadReturnsTheRegister := by
  intro s i v hl hv
  obtain ⟨hlt, -⟩ := List.getElem?_eq_some_iff.1 hv
  have hreg : s.reg i.toNat = v := by simp [State.reg, hv]
  exact exec_loopRead_eq_next.2 ⟨hl, hl.regs_length ▸ hlt, hreg ▸ rfl⟩

/-- Settles O31: LOOP_WRITE is one register written. -/
theorem loopWriteWritesOneRegister : Obligations.LoopWriteWritesOneRegister := fun _ _ v hl hi =>
  ⟨_, exec_loopWrite_eq_next.2 ⟨hl, hi, rfl⟩, State.setReg_registerWritten (hl.regs_length ▸ hi) v, rfl⟩

/-- Settles O32: both events of the loop port refuse such an index. -/
theorem loopIndexOutOfRangeRefused : Obligations.LoopIndexOutOfRangeRefused := fun _ _ v hl hi =>
  ⟨exec_loopRead_of_ge hl hi, exec_loopWrite_of_ge hl hi v⟩

/-- Settles O47: the access is selected with only its turn taken, and then does what it does anywhere. -/
theorem loopAccessBetweenTwoWords : Obligations.LoopAccessBetweenTwoWords := by
  intro s w rest i v hl hm hin hi
  have hlen : i.toNat < s.regs.length := hl.regs_length ▸ hi
  refine ⟨fun hd => ?_, fun hd => ?_⟩
  · exact ⟨_, (step_of_run (select_between_of_mid hm hin hd rfl)).trans (exec_loopWrite_eq_next.2 ⟨hl, hi, rfl⟩),
      State.setReg_registerWritten hlen v, rfl, rfl, rfl⟩
  · exact ⟨_, s.reg i.toNat, (step_of_run (select_between_of_mid hm hin hd rfl)).trans
      (exec_loopRead_eq_next.2 ⟨hl, hi, rfl⟩), hl.getElem?_regs hi, rfl⟩

/-- Settles O35: one step of FC03 writes the header and one word at most; to that the last step adds the CRC and the
hand-off. -/
theorem fc03ReadsOneWordAStep : Obligations.Fc03ReadsOneWordAStep := by
  rintro s a start count j hl hp hw hrange rfl
  have hn := hl.n_le
  obtain ⟨m, hm, hbetween, hlast⟩ := fc03Step_cases hl hw hrange
  have hexec : exec (.fc03 a start count) s = .next (fc03Step start count s) := inProcessing_of_legal hl hp _
  refine ⟨fun hj => ?_, fun hj => ?_⟩
  · rw [hbetween hj] at hexec
    obtain ⟨hhi, hlo⟩ := hm.word (by omega)
    exact ⟨_, _, hexec, hl.getElem?_regs (by omega), hhi, hlo, hm.header,
      fun k h3 h4 => hm.otherBytes k fun _ => ⟨h3, h4⟩, rfl, rfl⟩
  · rw [hlast hj] at hexec
    obtain ⟨hkeep, hlen, hcrc⟩ := fc03Finish_txbuf (s := { s with txbuf := m }) hm.wf (count := count)
      (by unfold cap; omega)
    refine ⟨_, hexec, rfl, rfl, hlen, rfl, rfl, rfl, rfl, fun v hv hreg => ?_, fun hd => ?_, fun k hk h3 h4 hold => ?_,
      hlen ▸ hcrc, fun k hk => ?_, rfl⟩
    · obtain ⟨hhi, hlo⟩ := hm.word (by omega)
      have hval : s.reg (start.toNat + s.wordsDone.getD 0) = v := by simp [State.reg, hreg]
      rw [hkeep _ (by omega), hkeep _ (by omega)]
      exact hval ▸ ⟨hhi, hlo⟩
    · rw [hkeep 0 (by omega), hkeep 1 (by omega), hkeep 2 (by omega)]
      exact hm.header hd
    · rw [hkeep k (.inl hk)]
      exact hm.otherBytes k (fun _ => ⟨h3, h4⟩) hold
    · rw [hkeep k (.inr hk)]
      exact hm.otherBytes k (by omega) (.inl (by omega))

/-- Settles O38: FC06 leaves the value in the register, and FC03 of one register answers what is there. -/
theorem fc06ValueIsReadBack : Obligations.Fc06ValueIsReadBack := by
  intro s t u a b r v h hr hul hup huw hud hparams hregs
  obtain ⟨hl, -, rfl⟩ := inProcessing_eq_next.1 h
  rw [fc06Step_of_lt hr] at hparams hregs
  have hn : u.n = s.n := congrArg Params.n hparams
  have hread : u.reg r.toNat = v := by
    have hset := State.setReg_reg s r.toNat v r.toNat (hl.regs_length ▸ hr)
    rw [if_pos rfl] at hset
    rw [← hset, State.reg, hregs]
    rfl
  refine ⟨_, inProcessing_of_legal hul hup _, ?_⟩
  rw [fc03Step_one (hn ▸ hr) hud, hread]
  exact State.respond_answeredFrom huw (by simp [cap])

/-- Settles O40, by how many words are left: the loop goes on, moves the last word, or finds none. -/
theorem fc16WritesOneWordAStep : Obligations.Fc16WritesOneWordAStep := by
  rintro s a start count byteCount words j hl hp hw hrange hlen rfl
  have hexec : exec (.fc16 a start count byteCount words) s = .next (fc16Step start count words s) :=
    inProcessing_of_legal hl hp _
  rw [fc16Step_of_inRange hrange] at hexec
  have hword (hj : s.wordsDone.getD 0 < count.toNat) : ∃ v, words[s.wordsDone.getD 0]? = some v ∧
      (fc16Word start words (s.wordsDone.getD 0) s).registerWritten s (start.toNat + s.wordsDone.getD 0) v := by
    have hv := List.getElem?_eq_getElem (hlen.symm ▸ hj)
    exact ⟨_, hv, fc16Word_registerWritten (by rw [hl.regs_length]; omega) hv⟩
  refine ⟨fun hj => ?_, fun hj => ?_, fun hc => ?_⟩
  · obtain ⟨v, hv, hwritten⟩ := hword (by omega)
    rw [moveWord_between hj] at hexec
    exact ⟨_, v, hexec, hv, hwritten, rfl, rfl⟩
  · obtain ⟨v, hv, hwritten⟩ := hword (by omega)
    rw [moveWord_last hj] at hexec
    exact ⟨_, v, hexec, hv, hwritten, fc16Finish_answeredFrom hw start count⟩
  · have h0 : count.toNat ≤ s.wordsDone.getD 0 := hc ▸ Nat.zero_le _
    rw [moveWord_of_le h0] at hexec
    exact ⟨_, hexec, rfl, fc16Finish_answeredFrom hw start count⟩

/-- Settles O55, by what the instruction writes; the number of registers is N before and after. -/
theorem writersOfRegistersAndAddress : Obligations.WritersOfRegistersAndAddress := by
  intro i s t h
  suffices hwrites : t.params = s.params ∧ (t.regs = s.regs ∨ i = .powerOn ∨ WritesRegisters i) ∧
      (t.devaddr = s.devaddr ∨ i = .powerOn ∨ ∃ a, i = .setAddr a) by
    obtain ⟨hp, hregs, haddr⟩ := hwrites
    exact ⟨hp, exec_regs_length h hp, hregs, haddr⟩
  obtain hhold | ⟨hset, hwrites⟩ | ⟨a, rfl, rfl⟩ | ⟨rfl, hp⟩ := exec_writers_cases h
  · obtain ⟨hset, hregs⟩ := State.holding_eq_iff.1 hhold
    obtain ⟨hp, hd⟩ := State.setting_eq_iff.1 hset
    exact ⟨hp, .inl hregs, .inl hd⟩
  · obtain ⟨hp, hd⟩ := State.setting_eq_iff.1 hset
    exact ⟨hp, .inr (.inr hwrites), .inl hd⟩
  · exact ⟨rfl, .inl rfl, .inr (.inr ⟨a, rfl⟩)⟩
  · exact ⟨hp, .inr (.inl rfl), .inr (.inl rfl)⟩

end Sys2Proof.Proofs.RegisterMap
end

section
/-! SUPPORT. Encodings: an event word decodes exactly where it is an event's encoding, what the next turn does with a word that
spells none, and the fields of a frame that is finished by its CRC (R55, R70, R71, R74 to R79, R104). -/

namespace Sys2Proof

/-! ### Event words -/

theorem eventWord_eq {w : EventWord} {index : LoopIndex} {data : Word} (hx : eventIndex w = index)
    (hd : eventData w = data) : eventWord (eventKind w) index data = w := by
  rw [← hx, ← hd, eventWord_fields]

/-- A word whose high byte is 00 is its low byte with 00 before it (R8). -/
theorem join_zero_lo {w : Word} (h : hi w = 0) : join 0 (lo w) = w := by
  rw [← h, join_hi_lo]

theorem encodeEvent_of_plainEvent {w : EventWord} {i j : Instr} (h : plainEvent w i = .ok j)
    (henc : encodeEvent i = some (eventWord (eventKind w) 0 0)) : encodeEvent j = some w := by
  unfold plainEvent at h
  split at h <;> cases h
  next hzero =>
    obtain ⟨hx, hd⟩ := hzero
    rw [henc, eventWord_eq hx hd]

theorem encodeEvent_of_byteEvent {w : EventWord} {i : Byte → Instr} {j : Instr} (h : byteEvent w i = .ok j)
    (henc : ∀ b, encodeEvent (i b) = some (eventWord (eventKind w) 0 (join 0 b))) : encodeEvent j = some w := by
  unfold byteEvent at h
  split at h <;> cases h
  next hzero =>
    obtain ⟨hx, hhi⟩ := hzero
    rw [henc, join_zero_lo hhi, eventWord_eq hx rfl]

/-- An event word that decodes is the encoding of the event it decodes to, kind by kind (R70, R71). -/
theorem encodeEvent_of_decodeEvent {w : EventWord} {i : Instr} (h : decodeEvent w = .ok i) :
    encodeEvent i = some w := by
  unfold decodeEvent at h
  split at h
  · next hk => exact encodeEvent_of_byteEvent h fun _ => hk ▸ rfl
  iterate 4
    split at h
    · next hk => exact encodeEvent_of_plainEvent h (hk ▸ rfl)
  split at h
  · next hk => exact encodeEvent_of_byteEvent h fun _ => hk ▸ rfl
  split at h
  · next hk =>
    split at h <;> cases h
    next hd => exact congrArg some (hk ▸ eventWord_eq rfl hd)
  split at h <;> cases h
  next hk => simp [encodeEvent, ← hk]

/-- The encoding of an event decodes to it, operands included (R70). -/
theorem decodeEvent_of_encodeEvent {w : EventWord} {i : Instr} (h : encodeEvent i = some w) : decodeEvent w = .ok i := by
  cases i with
  | fc03 | fc06 | fc16 | powerOn | process => cases h
  | _ => cases h; simp [decodeEvent, plainEvent, byteEvent]

/-- An event word decodes to an instruction exactly where it is its encoding (R70, R71). -/
theorem decodeEvent_eq_ok {w : EventWord} {i : Instr} : decodeEvent w = .ok i ↔ encodeEvent i = some w :=
  ⟨encodeEvent_of_decodeEvent, decodeEvent_of_encodeEvent⟩

/-- The grounds on which R71 gives an event word no event: its kind, or a bit in a field that its kind does not use. -/
def Unspelled (w : EventWord) : Prop :=
  8 ≤ (eventKind w).toNat ∨
    ((eventKind w).toNat ≤ 5 ∧ eventIndex w ≠ 0) ∨
    ((eventKind w = 1 ∨ eventKind w = 2 ∨ eventKind w = 3 ∨ eventKind w = 4 ∨ eventKind w = 6) ∧ eventData w ≠ 0) ∨
    ((eventKind w = 0 ∨ eventKind w = 5) ∧ 256 ≤ (eventData w).toNat)

/-- No event's encoding gives a ground of R71: each keeps the fields that its kind does not use at 0. -/
theorem not_unspelled_of_encodeEvent {w : EventWord} {i : Instr} (h : encodeEvent i = some w) : ¬ Unspelled w := by
  have hbyte (b : Byte) : (join 0 b).toNat < 256 := by simpa [toNat_join] using b.isLt
  cases i with
  | fc03 | fc06 | fc16 | powerOn | process => cases h
  | rxByte b | setAddr b => cases h; simpa [Unspelled] using hbyte b
  | _ => cases h; simp [Unspelled]

theorem decodeEvent_of_unspelled {w : EventWord} (h : Unspelled w) : ∃ r, decodeEvent w = .error r := by
  cases hd : decodeEvent w with
  | error r => exact ⟨r, rfl⟩
  | ok i => exact absurd h (not_unspelled_of_encodeEvent (decodeEvent_eq_ok.1 hd))

/-! ### The next turn -/

namespace Machine

variable {s : State}

/-- A word that spells no event is selected as such, also where it is to come between two word accesses (R58, R71). -/
theorem select_of_error {w : EventWord} {rest : List Turn} {r : Reject}
    (hin : s.midProcess = false ∧ s.input = .event w :: rest ∨ s.input = .between w :: rest)
    (hd : decodeEvent w = .error r) : select s = .badEvent := by
  obtain ⟨hm, hin⟩ | hin := hin
  · simp [select, hm, hin, eventTurn, hd]
  · cases hm : s.midProcess <;> simp [select, selectMid, hm, hin, eventTurn, hd]

theorem step_of_badEvent (hl : s.Legal) (h : select s = .badEvent) : step s = .refused .badEvent := by
  simp [step, h, hl]

end Machine

/-! ### Request frames -/

theorem byteAt_withCrc {bytes : List Byte} {k : Nat} (h : k < bytes.length) :
    byteAt (withCrc bytes) k = byteAt bytes k := byteAt_append_left _ _ _ h

/-- A frame finished by its CRC passes the normative check (R104). -/
theorem crcOk_withCrc (bytes : List Byte) : crcOk .standard (withCrc bytes) = true := by
  have hlo : byteAt (withCrc bytes) bytes.length = lo (crc16 bytes) := by simp [withCrc, byteAt]
  have hhi : byteAt (withCrc bytes) (bytes.length + 1) = hi (crc16 bytes) := by simp [withCrc, byteAt]
  have htake : (withCrc bytes).take bytes.length = bytes := List.take_left
  simp [crcOk, CrcCheck.span, hlo, hhi, htake]

/-- A frame finished by its CRC, of the length that its function code and count demand, decodes to the request its fields
spell (R85, R89, R104). -/
theorem decode_withCrc {bytes : List Byte} (h6 : 6 ≤ bytes.length)
    (hlen : expectedLength .nine (byteAt bytes 1) (wordAt bytes 4) = some (bytes.length + 2)) :
    decode (.frame (withCrc bytes)) = .ok (requestOf (withCrc bytes)) := by
  refine Machine.decodeFrame_eq_ok.2 ⟨by simp; omega, crcOk_withCrc bytes, ?_, rfl⟩
  rw [length_withCrc, wordAt, byteAt_withCrc, byteAt_withCrc, byteAt_withCrc]
  · exact hlen
  all_goals omega

/-- A word laid out in a frame is read back from where it begins (R54). -/
theorem wordAt_append (pre post : List Byte) (w : Word) : wordAt (pre ++ hi w :: lo w :: post) pre.length = w := by
  simp [wordAt, byteAt]

theorem wordsAt_append_wordBytes (pre post : List Byte) (ws : List Word) :
    wordsAt (pre ++ (wordBytes ws ++ post)) pre.length ws.length = ws := by
  induction ws generalizing pre with
  | nil => rfl
  | cons w ws ih =>
    have htail : wordsAt (pre ++ hi w :: lo w :: (wordBytes ws ++ post)) (pre.length + 2) ws.length = ws := by
      simpa using ih (pre ++ [hi w, lo w])
    simp [wordsAt, wordBytes, wordAt_append, htail]

theorem decode_fc03 (addr : Byte) (start count : Word) :
    decode (.frame (withCrc ([addr, 0x03] ++ wordBytes [start, count]))) = .ok (.fc03 addr start count) := by
  rw [decode_withCrc (by simp) (by simp [expectedLength, byteAt])]
  simp [requestOf, withCrc, wordBytes, byteAt, wordAt]

theorem decode_fc06 (addr : Byte) (address value : Word) :
    decode (.frame (withCrc ([addr, 0x06] ++ wordBytes [address, value]))) = .ok (.fc06 addr address value) := by
  rw [decode_withCrc (by simp) (by simp [expectedLength, byteAt])]
  simp [requestOf, withCrc, wordBytes, byteAt, wordAt]

/-- An FC16 frame of any number of words, which may exceed what the receive buffer holds; any byte count (R76, R79, R90). -/
theorem decode_fc16 (addr : Byte) (start count : Word) (byteCount : Byte) {words : List Word}
    (hlen : words.length = count.toNat) :
    decode (.frame (withCrc ([addr, 0x10] ++ wordBytes [start, count] ++ [byteCount] ++ wordBytes words))) =
      .ok (.fc16 addr start count byteCount words) := by
  rw [decode_withCrc (by simp) (by simp [expectedLength, byteAt, wordAt, wordBytes, Fc16Base.value, hlen]; omega)]
  have hwords (post : List Byte) :=
    wordsAt_append_wordBytes [addr, 0x10, hi start, lo start, hi count, lo count, byteCount] post words
  simpa [requestOf, withCrc, wordBytes, byteAt, wordAt, ← hlen] using hwords _

/-- The frame of a well-formed request decodes to it, payload included (R74 to R76). -/
theorem decode_of_encodeFrame {i : Instr} {bytes : List Byte} (hw : i.wellFormed = true)
    (h : encodeFrame i = some bytes) : decode (.frame bytes) = .ok i := by
  cases i with
  | fc03 addr start count => cases h; exact decode_fc03 addr start count
  | fc06 addr address value => cases h; exact decode_fc06 addr address value
  | fc16 addr start count byteCount words =>
    cases h
    simp only [Instr.wellFormed, Bool.and_eq_true, beq_iff_eq] at hw
    exact decode_fc16 addr start count byteCount hw.1
  | _ => cases h

/-- Pairs of bytes one after the other are the words they join to, high byte first (R54). -/
theorem flatMap_pair_eq_wordBytes (payload : List (Byte × Byte)) :
    (payload.flatMap fun p => [p.1, p.2]) = wordBytes (payload.map fun p => join p.1 p.2) := by
  induction payload with
  | nil => rfl
  | cons p payload ih => simp [wordBytes, ih]

end Sys2Proof
end

section
/-! PROOFS. The encoding of events and requests: decoder and encoder undo each other, what spells nothing is refused, and the
byte order of request fields (30_encoding.md R70, R71, R74 to R79). -/

namespace Sys2Proof.Proofs.Encoding

open Sys2Proof.Machine

/-- Settles O1: an event by its word, a request by the fields of its frame. -/
theorem decodeOfEncodeIsIdentity : Obligations.DecodeOfEncodeIsIdentity := by
  intro i c hw hc
  unfold encode at hc
  cases he : encodeEvent i with
  | some w =>
    rw [he] at hc
    cases hc
    exact decodeEvent_eq_ok.2 he
  | none =>
    rw [he] at hc
    obtain ⟨bytes, hbytes, rfl⟩ := Option.map_eq_some_iff.1 hc
    exact decode_of_encodeFrame hw hbytes

/-- Settles O2: the decoder accepts a word only as the encoding of its event. -/
theorem encodeOfDecodedEventWord : Obligations.EncodeOfDecodedEventWord := by
  intro w i h
  simp [encode, decodeEvent_eq_ok.1 h]

/-- Settles O3: a word with a ground of R71 does not decode, and no instruction that does decode lacks an encoding. -/
theorem unspelledEventWordsRefused : Obligations.UnspelledEventWordsRefused := by
  refine ⟨fun s w rest hl hin hground => ?_, rfl, rfl, fun w => ⟨fun h => ?_, fun h => ?_⟩⟩
  · obtain ⟨r, hd⟩ := decodeEvent_of_unspelled hground
    exact step_of_badEvent hl (select_of_error hin hd)
  · cases decodeEvent_eq_ok.1 h
  · cases decodeEvent_eq_ok.1 h

/-- Settles O5: any two bytes are the bytes of the word they join to, so each frame is that of a request. -/
theorem requestFieldsAreHighByteFirst : Obligations.RequestFieldsAreHighByteFirst := by
  refine ⟨toNat_join, fun a s1 s0 c1 c0 => ⟨?_, ?_⟩, fun a s1 s0 c1 c0 byteCount payload hlen => ?_⟩
  · simpa [wordBytes] using decode_fc03 a (join s1 s0) (join c1 c0)
  · simpa [wordBytes] using decode_fc06 a (join s1 s0) (join c1 c0)
  · have hcount : (payload.map fun p => join p.1 p.2).length = (join c1 c0).toNat := by
      rw [List.length_map, hlen, toNat_join]
    rw [flatMap_pair_eq_wordBytes]
    simpa [wordBytes] using decode_fc16 a (join s1 s0) (join c1 c0) byteCount hcount

/-- Settles O4: each word is the encoding of its event, and the frame ends in the CRC of its first six bytes. -/
theorem specWordsDecode : Obligations.SpecWordsDecode := by
  refine ⟨decodeEvent_eq_ok.2 rfl, decodeEvent_eq_ok.2 rfl, decodeEvent_eq_ok.2 rfl, decodeEvent_eq_ok.2 rfl,
    decodeEvent_eq_ok.2 rfl, ?_⟩
  have hframe : ([0x01, 0x06, 0x00, 0x01, 0x12, 0x34, 0xD5, 0x7D] : List Byte) =
      withCrc ([0x01, 0x06] ++ wordBytes [1, 0x1234]) := by decide +kernel
  rw [hframe]
  exact decode_fc06 1 1 0x1234

end Sys2Proof.Proofs.Encoding
end

section
/-! SUPPORT. What the generator keeps apart and what it cancels: a shift loses nothing, so a frame with another byte has
another CRC; and the check is the residue 0 over the whole frame (R100, R104, R106). -/

namespace Sys2Proof

/-! ### One shift loses nothing -/

/-- The shifts of one byte are the shift iterated (R100). -/
theorem crcShifts_eq_iterate (n : Nat) (c : Word) : crcShifts n c = crcShift^[n] c := by
  induction n generalizing c with
  | zero => rfl
  | succ n ih => exact ih (crcShift c)

theorem crcShift_of_low_one {c : Word} (h : c.getLsbD 0 = true) : crcShift c = (c >>> 1) ^^^ 0xA001#16 := if_pos h

theorem crcShift_of_low_zero {c : Word} (h : c.getLsbD 0 = false) : crcShift c = c >>> 1 := if_neg (by rw [h]; decide)

/-- Bit 15 of 0xA001 is 1: after a shift, bit 15 says which bit was shifted out (R100). -/
theorem getLsbD_crcShift_top (c : Word) : (crcShift c).getLsbD 15 = c.getLsbD 0 := by
  cases hbit : c.getLsbD 0 with
  | true => simp [crcShift_of_low_one hbit]
  | false => simp [crcShift_of_low_zero hbit]

/-- A word is its upper bits and the bit that a shift takes out. -/
theorem eq_of_ushiftRight_one {c d : Word} (hlow : c.getLsbD 0 = d.getLsbD 0) (hrest : c >>> 1 = d >>> 1) : c = d := by
  apply BitVec.eq_of_getLsbD_eq
  intro i _
  cases i with
  | zero => exact hlow
  | succ i => simpa [Nat.add_comm] using congrArg (fun w => BitVec.getLsbD w i) hrest

theorem crcShift_injective : Function.Injective crcShift := by
  intro c d h
  have hlow : c.getLsbD 0 = d.getLsbD 0 := by rw [← getLsbD_crcShift_top, h, getLsbD_crcShift_top]
  refine eq_of_ushiftRight_one hlow ?_
  cases hbit : d.getLsbD 0 with
  | true =>
    rw [crcShift_of_low_one (hlow.trans hbit), crcShift_of_low_one hbit] at h
    exact (BitVec.xor_left_inj _).1 h
  | false => rwa [crcShift_of_low_zero (hlow.trans hbit), crcShift_of_low_zero hbit] at h

theorem crcShifts_injective (n : Nat) : Function.Injective (crcShifts n) := by
  rw [funext (crcShifts_eq_iterate n)]
  exact crcShift_injective.iterate n

/-! ### A frame with another byte has another CRC -/

theorem crcByte_injective_left (b : Byte) : Function.Injective fun c => crcByte c b :=
  fun _ _ h => (BitVec.xor_left_inj _).1 (crcShifts_injective 8 h)

theorem crcByte_injective_right (c : Word) : Function.Injective (crcByte c) := by
  intro a b h
  have hwide : a.setWidth 16 = b.setWidth 16 := (BitVec.xor_right_inj _).1 (crcShifts_injective 8 h)
  simpa using congrArg (BitVec.setWidth 8) hwide

/-- Bytes that follow alike keep two values of the generator apart. -/
theorem foldl_crcByte_injective (bytes : List Byte) : Function.Injective fun c => bytes.foldl crcByte c := by
  induction bytes with
  | nil => exact Function.injective_id
  | cons b bytes ih => exact ih.comp (crcByte_injective_left b)

/-- Two frames that differ in one byte have different CRCs. -/
theorem eq_of_crc16_replace_byte {pre post : List Byte} {a b : Byte}
    (h : crc16 (pre ++ a :: post) = crc16 (pre ++ b :: post)) : a = b := by
  simp only [crc16, List.foldl_append, List.foldl_cons] at h
  exact crcByte_injective_right _ (foldl_crcByte_injective post h)

/-- A byte changed in its place changes the CRC. -/
theorem crc16_modify_ne {bytes : List Byte} {k : Nat} (hk : k < bytes.length) {f : Byte → Byte}
    (hf : f bytes[k] ≠ bytes[k]) : crc16 (bytes.modify k f) ≠ crc16 bytes := by
  have hsplit : bytes = bytes.take k ++ bytes[k] :: bytes.drop (k + 1) := by simp
  rw [List.modify_eq_take_cons_drop hk]
  intro h
  exact hf (eq_of_crc16_replace_byte (h.trans (congrArg crc16 hsplit)))

/-- A flipped bit is another byte. -/
theorem flipBit_ne (b : Byte) {bit : Nat} (hbit : bit < 8) : b ^^^ (1#8 <<< bit) ≠ b := by
  have hmask : ∀ i < 8, 1#8 <<< i ≠ 0#8 := by decide
  intro h
  exact hmask bit hbit ((BitVec.xor_right_inj b).1 (h.trans BitVec.xor_zero.symm))

/-! ### The check is the residue 0 -/

/-- Bits that are all 0 are shifted out without the polynomial (R100). -/
theorem crcShifts_of_low_zero {n : Nat} {c : Word} (h : ∀ i < n, c.getLsbD i = false) : crcShifts n c = c >>> n := by
  induction n generalizing c with
  | zero => simp [crcShifts]
  | succ n ih =>
    rw [crcShifts, crcShift_of_low_zero (h 0 n.succ_pos), ih fun i hi => ?_, ← BitVec.shiftRight_add, Nat.add_comm]
    rw [BitVec.getLsbD_ushiftRight]
    exact h (1 + i) (by omega)

theorem getLsbD_join (a b : Byte) (i : Nat) :
    (join a b).getLsbD i = if i < 8 then b.getLsbD i else a.getLsbD (i - 8) := BitVec.getLsbD_append

/-- A word whose low byte is 00 is shifted to its high byte. -/
theorem crcShifts_join_zero (b : Byte) : crcShifts 8 (join b 0) = b.setWidth 16 := by
  rw [crcShifts_of_low_zero fun i hi => ?_]
  · apply BitVec.eq_of_toNat_eq
    simp [toNat_join, Nat.shiftRight_eq_div_pow]
    omega
  · simp [getLsbD_join, hi]

theorem join_xor_low (a b : Byte) : join a b ^^^ b.setWidth 16 = join a 0 := by
  apply BitVec.eq_of_getLsbD_eq
  intro i hi
  rw [BitVec.getLsbD_xor, BitVec.getLsbD_setWidth, getLsbD_join, getLsbD_join]
  by_cases hlow : i < 8
  · simp [hlow, hi]
  · simp [hlow, BitVec.getLsbD_of_ge b i (by omega)]

/-- The two CRC bytes bring the generator to 0 exactly where it holds them as its word, the low one first (R104). -/
theorem crcByte_crcByte_eq_zero {c : Word} {l h : Byte} : crcByte (crcByte c l) h = 0 ↔ c = join h l := by
  have hcancel : crcByte (crcByte (join h l) l) h = 0 := by
    rw [crcByte, crcByte, join_xor_low, crcShifts_join_zero, BitVec.xor_self]
    rfl
  constructor
  · intro hzero
    exact crcByte_injective_left l (crcByte_injective_left h (hzero.trans hcancel.symm))
  · rintro rfl
    exact hcancel

theorem eq_join_iff {c : Word} {l h : Byte} : c = join h l ↔ l = lo c ∧ h = hi c := by
  constructor
  · rintro rfl
    exact ⟨(lo_join h l).symm, (hi_join h l).symm⟩
  · rintro ⟨rfl, rfl⟩
    exact (join_hi_lo c).symm

theorem crcOk_append_pair (bytes : List Byte) (l h : Byte) :
    crcOk .standard (bytes ++ [l, h]) = true ↔ l = lo (crc16 bytes) ∧ h = hi (crc16 bytes) := by
  have hlow : byteAt (bytes ++ [l, h]) bytes.length = l := byteAt_append_right bytes [l, h] 0
  have hhigh : byteAt (bytes ++ [l, h]) (bytes.length + 1) = h := byteAt_append_right bytes [l, h] 1
  simp [crcOk, CrcCheck.span, hlow, hhigh]

/-- The normative check passes exactly where the CRC over the whole frame, its two CRC bytes included, is 0 (R104, R106). -/
theorem crcOk_standard_iff {frame : List Byte} (hlen : 2 ≤ frame.length) :
    crcOk .standard frame = true ↔ crc16 frame = 0 := by
  obtain ⟨bytes, l, h, rfl⟩ : ∃ bytes l h, frame = bytes ++ [l, h] := by
    obtain ⟨l, h, htail⟩ := List.length_eq_two.1 (show (frame.drop (frame.length - 2)).length = 2 by simp; omega)
    exact ⟨frame.take (frame.length - 2), l, h, by rw [← htail, List.take_append_drop]⟩
  have hcrc : crc16 (bytes ++ [l, h]) = crcByte (crcByte (crc16 bytes) l) h := by simp [crc16]
  rw [crcOk_append_pair, hcrc, crcByte_crcByte_eq_zero, eq_join_iff]

end Sys2Proof
end

section
/-! PROOFS. The CRC unit: its bit step, its values in the spec's vectors, what it detects in a frame, and what append_crc
writes (40_crc.md R100, R101, R103 to R106). -/

namespace Sys2Proof.Proofs.Crc

open Sys2Proof.Machine

/-- Settles O8: the check is the residue 0, which the CRC bytes give and which one changed byte destroys. -/
theorem crcRoundTripAndBitFlips : Obligations.CrcRoundTripAndBitFlips := by
  intro bytes _
  have hlen : 2 ≤ (withCrc bytes).length := by simp
  have hzero : crc16 (withCrc bytes) = 0 := (crcOk_standard_iff hlen).1 (crcOk_withCrc bytes)
  refine ⟨crcOk_withCrc bytes, fun k bit hk hbit => ?_, hzero⟩
  have hne : crc16 ((withCrc bytes).modify k fun b => b ^^^ (1#8 <<< bit)) ≠ 0 :=
    hzero ▸ crc16_modify_ne (by simpa using hk) (flipBit_ne _ hbit)
  rwa [Bool.eq_false_iff, Ne, crcOk_standard_iff (by simp)]

/-- Settles O6: the shifts are the step of R100 iterated. -/
theorem crcBitStep : Obligations.CrcBitStep := by
  refine ⟨crc16_nil, fun bytes b => ?_⟩
  rw [crc16_append_byte, crcByte, crcShifts_eq_iterate]
  rfl

/-- Settles O7: the generator run on each vector. -/
theorem crcWorkedValues : Obligations.CrcWorkedValues := by
  refine ⟨?_, ?_, ?_, ?_, ?_, ?_⟩ <;> decide +kernel

/-- Settles O9: the two bytes are written at m and m + 1, and only TXBUF and TXLEN are written. -/
theorem appendCrcLowByteFirst : Obligations.AppendCrcLowByteFirst := by
  intro s m hw hm
  have hread (a : Nat) : (s.appendCrc m).txbuf.read a =
      if m ≤ a ∧ a < m + 2 then [lo (crc16 (s.txbuf.bytes 0 m)), hi (crc16 (s.txbuf.bytes 0 m))].getD (a - m) 0
      else s.txbuf.read a := Memory.read_writeList hw hm a
  refine ⟨?_, ?_, State.appendCrc_txlen_toNat hm, fun a h0 h1 => State.appendCrc_read hw hm (by omega), rfl⟩
  · rw [hread, if_pos (by omega), Nat.sub_self]
    rfl
  · rw [hread, if_pos (by omega), Nat.add_sub_cancel_left]
    rfl

end Sys2Proof.Proofs.Crc
end

section
/-! SUPPORT. The receive side of the framer: what one RX_BYTE writes in each STATE, what the inspection decides, and a frame
received byte by byte (R110 to R119). -/

namespace Sys2Proof.Machine

variable {s t : State}

/-! ### RX_BYTE by STATE -/

theorem exec_rxByte_of_idle (hl : s.Legal) (hi : s.state = .idle) (b : Byte) :
    exec (.rxByte b) s = .next (rxIdle b s) := by
  simp [exec, execRxByte, hl, hi]

theorem exec_rxByte_of_receiving (hl : s.Legal) (hr : s.state = .receiving) (b : Byte) :
    exec (.rxByte b) s = .next (rxReceiving b s) := by
  simp [exec, execRxByte, hl, hr]

theorem exec_rxByte_of_ignoring (hl : s.Legal) (hg : s.state = .ignoring) (b : Byte) :
    exec (.rxByte b) s = .next (rxIgnoring b s) := by
  simp [exec, execRxByte, hl, hg]

/-- store_rx writes RXBUF and RXCUR alone (R111). -/
theorem State.storeRx_eq (b : Byte) (s : State) :
    s.storeRx b = { s with rxbuf := (s.storeRx b).rxbuf, rxcur := (s.storeRx b).rxcur } := by
  unfold State.storeRx
  split <;> rfl

/-- RX_BYTE in Idle before the inspection writes RXBUF, RXCUR and the timer alone (R112). -/
theorem storeIdle_eq (b : Byte) (s : State) :
    storeIdle b s =
      { s with
        rxbuf := (s.storeRx b).rxbuf
        rxcur := (s.storeRx b).rxcur
        tmrEn := if s.rxcur = 0 then true else s.tmrEn
        tmrCount := 0
        tmrTarget := if s.rxcur = 0 then s.params.tFrame else s.tmrTarget } := by
  by_cases h0 : s.rxcur = 0
  · simp only [storeIdle, h0, if_true]
    exact congrArg (State.timerArm s.params.tFrame) (s.storeRx_eq b)
  · simp only [storeIdle, h0, if_false]
    exact congrArg State.timerRestart (s.storeRx_eq b)

/-- RX_BYTE in Receiving writes RXBUF, RXCUR, TMR_COUNT, and for the last byte of the frame STATE and TMR_EN (R117). -/
theorem rxReceiving_eq (b : Byte) (s : State) :
    rxReceiving b s =
      { s with
        rxbuf := (s.storeRx b).rxbuf
        rxcur := (s.storeRx b).rxcur
        tmrCount := 0
        state := if (s.storeRx b).rxcur.toNat = s.explen.toNat then .processing else s.state
        tmrEn := if (s.storeRx b).rxcur.toNat = s.explen.toNat then false else s.tmrEn } := by
  by_cases hfull : (s.storeRx b).rxcur.toNat = s.explen.toNat
  · simp only [rxReceiving, State.timerRestart_rxcur, State.timerRestart_explen, State.storeRx_explen, hfull, if_true]
    exact congrArg (fun u => { u.timerRestart.timerDisarm with state := .processing }) (s.storeRx_eq b)
  · simp only [rxReceiving, State.timerRestart_rxcur, State.timerRestart_explen, State.storeRx_explen, hfull, if_false]
    exact congrArg State.timerRestart (s.storeRx_eq b)

/-- RX_BYTE in Ignoring writes RXBUF, RXCUR and TMR_COUNT alone (R118). -/
theorem rxIgnoring_eq (b : Byte) (s : State) :
    rxIgnoring b s =
      { s with rxbuf := (s.storeRx b).rxbuf, rxcur := (s.storeRx b).rxcur, tmrCount := 0 } :=
  congrArg State.timerRestart (s.storeRx_eq b)

/-! ### The inspection -/

theorem State.addrMatch_iff (s : State) (a : Byte) : s.addrMatch a = true ↔ s.devaddr ≠ 0 ∧ a = s.devaddr := by
  simp [State.addrMatch]

/-- A request has an expected length exactly where its function code is 3, 6 or 16 (R85, R115). -/
theorem expectedLength_isSome_iff (base : Fc16Base) (function : Byte) (count : Word) :
    (∃ len, expectedLength base function count = some len) ↔ function = 0x03 ∨ function = 0x06 ∨ function = 0x10 := by
  unfold expectedLength
  rw [← or_assoc]
  by_cases h8 : function = 0x03 ∨ function = 0x06
  · rw [if_pos h8]
    exact iff_of_true ⟨8, rfl⟩ (.inl h8)
  rw [if_neg h8]
  by_cases h16 : function = 0x10
  · rw [if_pos h16]
    exact iff_of_true ⟨_, rfl⟩ (.inr h16)
  · rw [if_neg h16]
    exact iff_of_false (fun ⟨_, h⟩ => nomatch h) (not_or.2 ⟨h8, h16⟩)

/-- What the inspection goes on with: the address byte matches, and the function code is one that the block knows (R113). -/
def State.Addressed (s : State) : Prop :=
  s.addrMatch (s.rxbuf.read 0) = true ∧
    (s.rxbuf.read 1 = 0x03 ∨ s.rxbuf.read 1 = 0x06 ∨ s.rxbuf.read 1 = 0x10)

theorem State.addressed_iff (s : State) :
    s.Addressed ↔ (s.devaddr ≠ 0 ∧ s.rxbuf.read 0 = s.devaddr) ∧
      (s.rxbuf.read 1 = 0x03 ∨ s.rxbuf.read 1 = 0x06 ∨ s.rxbuf.read 1 = 0x10) :=
  and_congr (s.addrMatch_iff _) Iff.rfl

/-- The expected length by function code (R115, R116). -/
theorem State.explen_of_requestLength (h : s.requestLength = some s.explen.toNat) :
    (s.rxbuf.read 1 = 0x03 ∨ s.rxbuf.read 1 = 0x06 → s.explen = 8) ∧
      (s.rxbuf.read 1 = 0x10 → s.explen.toNat =
        s.params.fc16Base.value + 2 * ((s.rxbuf.read 4).toNat * 256 + (s.rxbuf.read 5).toNat)) := by
  unfold State.requestLength expectedLength at h
  constructor
  · intro hf
    rw [if_pos hf] at h
    exact BitVec.eq_of_toNat_eq (Option.some.inj h).symm
  · intro hf
    rw [hf, if_neg (by decide), if_pos rfl, toNat_join] at h
    exact (Option.some.inj h).symm

/-- What inspect() decides: a request for the block is received up to its expected length, any other frame ignored (R113 to
R116). -/
theorem State.inspect_decides (s : State) :
    (s.Addressed ∧ ∃ len, s.requestLength = some len ∧
        s.inspect = { s with state := .receiving, explen := BitVec.ofNat 18 len }) ∨
      (¬ s.Addressed ∧ s.inspect = { s with state := .ignoring, explen := 255 }) := by
  have hknown := expectedLength_isSome_iff s.params.fc16Base (s.rxbuf.read 1) (join (s.rxbuf.read 4) (s.rxbuf.read 5))
  unfold State.inspect
  by_cases hmatch : s.addrMatch (s.rxbuf.read 0) = true
  · rw [if_pos hmatch]
    cases hlen : s.requestLength with
    | some len => exact .inl ⟨⟨hmatch, hknown.1 ⟨len, hlen⟩⟩, len, rfl, rfl⟩
    | none =>
      refine .inr ⟨fun h => ?_, rfl⟩
      obtain ⟨len, hsome⟩ := hknown.2 h.2
      exact Option.some_ne_none len (hsome.symm.trans hlen)
  · exact .inr ⟨fun h => hmatch h.1, if_neg hmatch⟩

/-- RX_BYTE in Idle writes RXBUF, RXCUR, the timer, and by the inspection STATE and EXPLEN (R112, R113). -/
theorem rxIdle_stores (b : Byte) (s : State) :
    rxIdle b s =
      { s with
        rxbuf := (s.storeRx b).rxbuf
        rxcur := (s.storeRx b).rxcur
        state := (rxIdle b s).state
        explen := (rxIdle b s).explen
        tmrEn := if s.rxcur = 0 then true else s.tmrEn
        tmrCount := 0
        tmrTarget := if s.rxcur = 0 then s.params.tFrame else s.tmrTarget } := by
  have hstore := storeIdle_eq b s
  rw [rxIdle_eq]
  split
  · obtain ⟨-, len, -, heq⟩ | ⟨-, heq⟩ := (storeIdle b s).inspect_decides <;> rw [heq, hstore]
  · rw [storeIdle_state, storeIdle_explen]
    exact hstore

/-- What RX_BYTE in Idle decides, said of the state it answers: no inspection yet; a request for the block, to be received up
to its expected length; or any other frame (R112 to R116). -/
theorem rxIdle_decides (b : Byte) (s : State) :
    ((rxIdle b s).rxcur.toNat ≠ s.params.inspectAt.bytes ∧ (rxIdle b s).state = s.state ∧
        (rxIdle b s).explen = s.explen) ∨
      ((rxIdle b s).rxcur.toNat = s.params.inspectAt.bytes ∧ (rxIdle b s).Addressed ∧ (rxIdle b s).state = .receiving ∧
        (rxIdle b s).requestLength = some (rxIdle b s).explen.toNat) ∨
      ((rxIdle b s).rxcur.toNat = s.params.inspectAt.bytes ∧ ¬ (rxIdle b s).Addressed ∧
        (rxIdle b s).state = .ignoring ∧ (rxIdle b s).explen = 255) := by
  rw [rxIdle_eq]
  split
  · next hat =>
    obtain ⟨haddr, len, hlen, heq⟩ | ⟨hother, heq⟩ := (storeIdle b s).inspect_decides <;> rw [heq]
    · obtain ⟨-, hlt⟩ := expectedLength_bounds hlen
      have hexp : (BitVec.ofNat 18 len).toNat = len := Nat.mod_eq_of_lt hlt
      exact .inr (.inl ⟨hat, haddr, rfl, hexp.symm ▸ hlen⟩)
    · exact .inr (.inr ⟨hat, hother, rfl, rfl⟩)
  · next hat => exact .inl ⟨hat, storeIdle_state b s, storeIdle_explen b s⟩

/-! ### The frame received so far -/

/-- A byte stored comes after those of the frame, up to the capacity of RXBUF (R111). -/
theorem State.storeRx_frame (hw : s.rxbuf.wf = true) (b : Byte) : (s.storeRx b).frame = (s.frame ++ [b]).take cap := by
  by_cases hlt : s.rxcur.toNat < cap
  · have hcur : (s.storeRx b).rxcur.toNat = s.rxcur.toNat + 1 := by rw [State.storeRx_rxcur_toNat, if_pos hlt]
    have hkeep : (s.storeRx b).rxbuf.bytes 0 s.rxcur.toNat = s.frame :=
      Memory.bytes_congr fun k hk => by rw [State.storeRx_read s b hw, if_neg (by omega)]
    have hnew : (s.storeRx b).rxbuf.read s.rxcur.toNat = b := by rw [State.storeRx_read s b hw, if_pos ⟨rfl, hlt⟩]
    rw [List.take_of_length_le (by simp; omega), State.frame, hcur, Memory.bytes_add, hkeep, Nat.zero_add]
    exact congrArg (s.frame ++ [·]) hnew
  · have hfull : s.frame.length = cap := by
      have := s.rxcur.isLt
      rw [State.length_frame]
      unfold cap at hlt ⊢
      omega
    rw [State.storeRx_of_full s b hlt, List.take_left' hfull]

/-- The bytes the inspection looks at, as bytes of the frame received so far (R113). -/
theorem State.addressed_iff_frame (h2 : 2 ≤ s.rxcur.toNat) :
    s.Addressed ↔ s.addrMatch (byteAt s.frame 0) = true ∧
      (byteAt s.frame 1 = 0x03 ∨ byteAt s.frame 1 = 0x06 ∨ byteAt s.frame 1 = 0x10) := by
  rw [s.byteAt_frame 0 (by omega), s.byteAt_frame 1 (by omega)]
  rfl

/-- The expected length, from the frame received so far (R115, R116). -/
theorem State.requestLength_eq_frame (h6 : 6 ≤ s.rxcur.toNat) :
    s.requestLength = expectedLength s.params.fc16Base (byteAt s.frame 1) (wordAt s.frame 4) := by
  rw [wordAt, s.byteAt_frame 1 (by omega), s.byteAt_frame 4 (by omega), s.byteAt_frame 5 (by omega)]
  rfl

theorem State.quiet_iff (s : State) : s.quiet = true ↔ s.state = .idle ∧ s.rxcur = 0 := by
  simp [State.quiet]

/-- The state with all that RX_BYTE may write taken from another one. -/
def State.withReceiveSide (s r : State) : State :=
  { s with
    state := r.state
    rxbuf := r.rxbuf
    rxcur := r.rxcur
    explen := r.explen
    tmrEn := r.tmrEn
    tmrCount := r.tmrCount
    tmrTarget := r.tmrTarget }

/-- u is s after these bytes were received, as far as RXBUF and what RX_BYTE never writes go: the bytes are in RXBUF up to its
capacity (R111), and the receive side alone may have changed. -/
structure State.Holding (s : State) (bytes : List Byte) (u : State) : Prop where
  legal : u.Legal
  rxWf : u.rxbuf.wf = true
  frame : u.frame = bytes.take cap
  rest : u.withReceiveSide s = s

namespace State.Holding

variable {u : State} {bytes : List Byte}

/-- RXCUR counts the bytes received, up to CAP (R26, R111). -/
theorem rxcur (h : s.Holding bytes u) : u.rxcur.toNat = min bytes.length cap := by
  rw [← State.length_frame, h.frame, List.length_take, Nat.min_comm]

theorem rxcur_of_le (h : s.Holding bytes u) (hle : bytes.length ≤ cap) : u.rxcur.toNat = bytes.length :=
  h.rxcur.trans (min_eq_left hle)

theorem params (h : s.Holding bytes u) : u.params = s.params := (congrArg State.params h.rest :)

theorem addrMatch (h : s.Holding bytes u) (a : Byte) : u.addrMatch a = s.addrMatch a :=
  (congrArg (State.addrMatch · a) h.rest :)

theorem byteAt_frame (h : s.Holding bytes u) {k : Nat} (hk : k < cap) : byteAt u.frame k = byteAt bytes k := by
  simp [h.frame, byteAt, List.getD_eq_getElem?_getD, hk]

/-- Nothing is received yet in a quiet state (R32). -/
theorem of_quiet (hl : s.Legal) (hw : s.rxbuf.wf = true) (hq : s.quiet = true) : s.Holding [] s := by
  obtain ⟨-, hcur⟩ := s.quiet_iff.1 hq
  exact ⟨hl, hw, List.eq_nil_of_length_eq_zero (by simp [hcur]), rfl⟩

/-- Storing one more byte, with any change of STATE to a code in use, of EXPLEN and of the timer. -/
theorem store (h : s.Holding bytes u) (b : Byte) {state : SlaveState} (hstate : state.isReserved = false)
    (explen : BitVec 18) (tmrEn : Bool) (tmrCount tmrTarget : BitVec 16) :
    s.Holding (bytes ++ [b])
      { u with
        rxbuf := (u.storeRx b).rxbuf
        rxcur := (u.storeRx b).rxcur
        state := state
        explen := explen
        tmrEn := tmrEn
        tmrCount := tmrCount
        tmrTarget := tmrTarget } where
  legal := h.legal.congr rfl rfl hstate
  rxWf := u.storeRx_wf b h.rxWf
  frame := by
    have hcut : (bytes.take cap ++ [b]).take cap = (bytes ++ [b]).take cap := by
      rw [List.take_append, List.take_append, List.take_take, List.length_take, Nat.min_self]
      congr 2
      omega
    exact (State.storeRx_frame h.rxWf b).trans (h.frame ▸ hcut)
  rest := h.rest

theorem rxIdle (h : s.Holding bytes u) (b : Byte) : s.Holding (bytes ++ [b]) (rxIdle b u) := by
  rw [rxIdle_stores]
  exact h.store b (h.legal.rxIdle b).not_reserved _ _ _ _

theorem rxReceiving (h : s.Holding bytes u) (b : Byte) : s.Holding (bytes ++ [b]) (rxReceiving b u) := by
  rw [rxReceiving_eq]
  refine h.store b ?_ _ _ _ _
  split
  · rfl
  · exact h.legal.not_reserved

theorem rxIgnoring (h : s.Holding bytes u) (b : Byte) : s.Holding (bytes ++ [b]) (rxIgnoring b u) := by
  rw [rxIgnoring_eq]
  exact h.store b h.legal.not_reserved _ _ _ _

end State.Holding

/-- What holds of the state when nothing is received, and is kept by each byte with those before it, holds when all bytes are
received. -/
theorem receiveAll_of_invariant {P : List Byte → State → Prop} {bytes : List Byte} (hs : P [] s)
    (hstep : ∀ pre b post u, bytes = pre ++ b :: post → P pre u → ∃ v, exec (.rxByte b) u = .next v ∧ P (pre ++ [b]) v) :
    ∃ t, receiveAll bytes s = .next t ∧ P bytes t := by
  suffices hrest : ∀ post pre u, bytes = pre ++ post → P pre u → ∃ t, receiveAll post u = .next t ∧ P bytes t from
    hrest bytes [] s rfl hs
  intro post
  induction post with
  | nil =>
    intro pre u hsplit hu
    rw [hsplit, List.append_nil]
    exact ⟨u, rfl, hu⟩
  | cons b post ih =>
    intro pre u hsplit hu
    obtain ⟨v, hexec, hv⟩ := hstep pre b post u hsplit hu
    rw [receiveAll, hexec]
    exact ih (pre ++ [b]) v (by simp [hsplit]) hv

/-! ### A request for the block -/

/-- The frame of a well-formed request fits the receive buffer (R6). -/
theorem length_le_cap_of_encodeFrame {i : Instr} {bytes : List Byte} (hw : i.wellFormed = true)
    (h : encodeFrame i = some bytes) : bytes.length ≤ cap := by
  have hcode := congrArg (Option.map Code.frame) h
  cases i with
  | fc03 addr start count =>
    obtain ⟨-, hle, -⟩ := Laws.EncodedLength.fc03 addr start count hw bytes hcode
    exact hle
  | fc06 addr address value =>
    obtain ⟨-, hle, -⟩ := Laws.EncodedLength.fc06 addr address value hw bytes hcode
    exact hle
  | fc16 addr start count byteCount words =>
    obtain ⟨-, hle, -⟩ := Laws.EncodedLength.fc16 addr start count byteCount words hw bytes hcode
    exact hle
  | _ => cases h

/-- A complete frame with the block's address, of the length that its function code and count demand (R89, R114). -/
structure State.RequestFor (s : State) (request : List Byte) : Prop where
  addrMatch : s.addrMatch (byteAt request 0) = true
  expected : expectedLength s.params.fc16Base (byteAt request 1) (wordAt request 4) = some request.length
  fits : request.length ≤ cap

theorem byteAt_of_begins {xs ys : List Byte} (h : xs <+: ys) {k : Nat} (hk : k < xs.length) :
    byteAt xs k = byteAt ys k := by
  obtain ⟨zs, rfl⟩ := h
  exact (byteAt_append_left xs zs k hk).symm

/-- From the first bytes of a request for the block the inspection sees its address, its function and its length (R113). -/
theorem State.RequestFor.inspected {request bytes : List Byte} {u : State} (hr : s.RequestFor request)
    (h : s.Holding bytes u) (hpre : bytes <+: request) (h6 : 6 ≤ bytes.length) :
    u.Addressed ∧ u.requestLength = some request.length := by
  have hcur : 6 ≤ u.rxcur.toNat := h.rxcur ▸ le_min h6 (by decide)
  have hread (k : Nat) (hk : k < 6) : byteAt u.frame k = byteAt request k := by
    rw [h.byteAt_frame (by unfold cap; omega), byteAt_of_begins hpre (by omega)]
  constructor
  · rw [State.addressed_iff_frame (by omega), hread 0 (by decide), hread 1 (by decide), h.addrMatch]
    exact ⟨hr.addrMatch, (expectedLength_isSome_iff _ _ _).1 ⟨_, hr.expected⟩⟩
  · rw [State.requestLength_eq_frame hcur, wordAt, h.params, hread 1 (by decide), hread 4 (by decide), hread 5 (by decide)]
    exact hr.expected

/-- While a request is received: Idle up to the inspection, Receiving up to its last byte, then Processing with the timer
disarmed (R112, R113, R117). -/
structure State.ReceivingRequest (s : State) (request bytes : List Byte) (u : State) : Prop where
  holding : s.Holding bytes u
  idle : bytes.length < s.params.inspectAt.bytes → u.state = .idle
  explen : s.params.inspectAt.bytes ≤ bytes.length → u.explen.toNat = request.length
  receiving : s.params.inspectAt.bytes ≤ bytes.length → bytes.length < request.length → u.state = .receiving
  complete : bytes.length = request.length → u.state = .processing ∧ u.tmrEn = false

/-- A byte before the inspection, or the one that brings it (R112, R113). -/
theorem State.ReceivingRequest.rxIdle {request pre : List Byte} {b : Byte} {u : State} (hr : s.RequestFor request)
    (h : s.ReceivingRequest request pre u) (hpre : pre ++ [b] <+: request)
    (hlt : pre.length < s.params.inspectAt.bytes) : s.ReceivingRequest request (pre ++ [b]) (rxIdle b u) := by
  have hstore := h.holding.rxIdle b
  have hbytes := inspectAt_bounds s.params.inspectAt
  obtain ⟨hmin, -⟩ := expectedLength_bounds hr.expected
  have hlen : (pre ++ [b]).length = pre.length + 1 := by simp
  have hcur := (hstore.rxcur_of_le (by unfold cap; omega)).trans hlen
  have hdecides := rxIdle_decides b u
  rw [hcur, h.holding.params] at hdecides
  obtain ⟨hat, hstate, -⟩ | ⟨hat, -, hstate, hexp⟩ | ⟨hat, hother, -⟩ := hdecides
  · exact ⟨hstore, fun _ => hstate.trans (h.idle hlt), fun _ => by omega, fun _ _ => by omega, fun _ => by omega⟩
  · obtain ⟨-, hrequest⟩ := hr.inspected hstore hpre (by omega)
    have hexp := Option.some.inj (hexp.symm.trans hrequest)
    exact ⟨hstore, fun _ => by omega, fun _ => hexp, fun _ _ => hstate, fun _ => by omega⟩
  · obtain ⟨haddr, -⟩ := hr.inspected hstore hpre (by omega)
    exact absurd haddr hother

/-- A byte after the inspection (R117). -/
theorem State.ReceivingRequest.rxReceiving {request pre : List Byte} {b : Byte} {u : State} (hr : s.RequestFor request)
    (h : s.ReceivingRequest request pre u) (hpre : pre ++ [b] <+: request)
    (hge : s.params.inspectAt.bytes ≤ pre.length) :
    s.ReceivingRequest request (pre ++ [b]) (rxReceiving b u) := by
  have hlen : (pre ++ [b]).length = pre.length + 1 := by simp
  have hle : pre.length + 1 ≤ request.length := hlen ▸ hpre.length_le
  have hexp := h.explen hge
  have hcur : (u.storeRx b).rxcur.toNat = pre.length + 1 := by
    have hfits := hr.fits
    rw [State.storeRx_rxcur_toNat, h.holding.rxcur_of_le (by omega), if_pos (by omega)]
  have hstore := h.holding.rxReceiving b
  rw [rxReceiving_eq, hcur, hexp] at hstore ⊢
  refine ⟨hstore, fun _ => by omega, fun _ => hexp, fun _ hlt => ?_, fun hfull => ?_⟩
  · exact (if_neg (by omega)).trans (h.receiving hge hle)
  · exact ⟨if_pos (by omega), if_pos (by omega)⟩

/-- A request for the block, received byte by byte from quiet (R112 to R117). -/
theorem receiveAll_request {request : List Byte} (hl : s.Legal) (hw : s.rxbuf.wf = true) (hq : s.quiet = true)
    (hr : s.RequestFor request) : ∃ t, receiveAll request s = .next t ∧ s.ReceivingRequest request request t := by
  have hbytes := inspectAt_bounds s.params.inspectAt
  obtain ⟨hmin, -⟩ := expectedLength_bounds hr.expected
  obtain ⟨hi, -⟩ := s.quiet_iff.1 hq
  refine receiveAll_of_invariant (P := s.ReceivingRequest request) ?_ fun pre b post u hsplit hu => ?_
  · exact ⟨.of_quiet hl hw hq, fun _ => hi, fun h => absurd h (by simp; omega), fun h => absurd h (by simp; omega),
      fun h => absurd h (by simp; omega)⟩
  · have hpre : pre ++ [b] <+: request := ⟨post, by simp [hsplit]⟩
    have hlt : pre.length < request.length := by simp [hsplit]
    by_cases hat : pre.length < s.params.inspectAt.bytes
    · exact ⟨_, exec_rxByte_of_idle hu.holding.legal (hu.idle hat) b, hu.rxIdle hr hpre hat⟩
    · exact ⟨_, exec_rxByte_of_receiving hu.holding.legal (hu.receiving (by omega) hlt) b, hu.rxReceiving hr hpre (by omega)⟩

/-! ### A frame that is not for the block -/

/-- While a frame for another slave is received: Idle up to the inspection, then Ignoring (R113, R118). -/
structure State.IgnoringFrame (s : State) (bytes : List Byte) (u : State) : Prop where
  holding : s.Holding bytes u
  state : u.state = if bytes.length < s.params.inspectAt.bytes then .idle else .ignoring

/-- A byte before the inspection, or the one that brings it (R112, R113). -/
theorem State.IgnoringFrame.rxIdle {pre : List Byte} {b : Byte} {u : State} (h : s.IgnoringFrame pre u)
    (hlt : pre.length < s.params.inspectAt.bytes) (hforeign : s.addrMatch (byteAt (pre ++ [b]) 0) = false) :
    s.IgnoringFrame (pre ++ [b]) (rxIdle b u) := by
  have hstore := h.holding.rxIdle b
  have hbytes := inspectAt_bounds s.params.inspectAt
  have hlen : (pre ++ [b]).length = pre.length + 1 := by simp
  have hcur := (hstore.rxcur_of_le (by unfold cap; omega)).trans hlen
  have hdecides := rxIdle_decides b u
  rw [hcur, h.holding.params] at hdecides
  obtain ⟨hat, hstate, -⟩ | ⟨hat, haddr, -⟩ | ⟨hat, -, hstate, -⟩ := hdecides
  · exact ⟨hstore, by rw [hstate, h.state, if_pos hlt, if_pos (by omega)]⟩
  · rw [State.addressed_iff_frame (by omega), hstore.byteAt_frame (by decide), hstore.addrMatch, hforeign] at haddr
    exact absurd haddr.1 (by decide)
  · exact ⟨hstore, hstate.trans (if_neg (by omega)).symm⟩

/-- A byte after the inspection (R118). -/
theorem State.IgnoringFrame.rxIgnoring {pre : List Byte} {u : State} (h : s.IgnoringFrame pre u)
    (hge : s.params.inspectAt.bytes ≤ pre.length) (b : Byte) : s.IgnoringFrame (pre ++ [b]) (rxIgnoring b u) := by
  refine ⟨h.holding.rxIgnoring b, ?_⟩
  rw [rxIgnoring_eq, h.state, if_neg (by omega), if_neg (by simp; omega)]

/-- Bytes that begin with no address of the block, received one by one from quiet (R112 to R114, R118). -/
theorem receiveAll_foreign {bytes : List Byte} (hl : s.Legal) (hw : s.rxbuf.wf = true) (hq : s.quiet = true)
    (hforeign : s.addrMatch (byteAt bytes 0) = false) :
    ∃ t, receiveAll bytes s = .next t ∧ s.IgnoringFrame bytes t := by
  have hbytes := inspectAt_bounds s.params.inspectAt
  obtain ⟨hi, -⟩ := s.quiet_iff.1 hq
  refine receiveAll_of_invariant (P := s.IgnoringFrame) ⟨.of_quiet hl hw hq, ?_⟩ fun pre b post u hsplit hu => ?_
  · rw [hi, if_pos (by simp; omega)]
  · by_cases hat : pre.length < s.params.inspectAt.bytes
    · have hfirst : byteAt (pre ++ [b]) 0 = byteAt bytes 0 :=
        byteAt_of_begins ⟨post, by simp [hsplit]⟩ (by simp)
      exact ⟨_, exec_rxByte_of_idle hu.holding.legal (hu.state.trans (if_pos hat)) b, hu.rxIdle hat (hfirst ▸ hforeign)⟩
    · exact ⟨_, exec_rxByte_of_ignoring hu.holding.legal (hu.state.trans (if_neg hat)) b,
        hu.rxIgnoring (by omega) b⟩

end Sys2Proof.Machine
end

section
/-! SUPPORT. The transmit side of the framer: TX_READY, as many of them as bytes remain, and TX_COMPLETE (R120, R121). -/

namespace Sys2Proof.Machine

variable {s : State}

/-- The next byte of the response handed over (R120). -/
def State.sendNext (s : State) : State :=
  { s with outputs := s.outputs ++ [.txByte (s.txbuf.read s.txcur.toNat)], txcur := s.txcur + 1 }

/-- The last n bytes of the response handed over. -/
def State.sendRest (n : Nat) (s : State) : State :=
  { s with outputs := s.outputs ++ (s.txbuf.bytes s.txcur.toNat n).map Output.txByte, txcur := s.txlen }

theorem exec_txReady_of_left (hl : s.Legal) (h : s.state = .transmitting ∧ s.txcur.toNat < s.txlen.toNat) :
    exec .txReady s = .next s.sendNext := by
  rw [exec, execTxReady, checked_of_legal hl, if_pos h]
  rfl

theorem exec_txReady_of_not_left (hl : s.Legal) (h : ¬ (s.state = .transmitting ∧ s.txcur.toNat < s.txlen.toNat)) :
    exec .txReady s = .next s := by
  rw [exec, execTxReady, checked_of_legal hl, if_neg h]

theorem State.sendNext_txcur_toNat (h : s.txcur.toNat < s.txlen.toNat) :
    s.sendNext.txcur.toNat = s.txcur.toNat + 1 := by
  have hlt := s.txlen.isLt
  rw [State.sendNext, BitVec.toNat_add]
  exact Nat.mod_eq_of_lt (by simp; omega)

/-- The rest of the response is its next byte and the rest after it. -/
theorem State.sendRest_succ (n : Nat) (h : s.txcur.toNat < s.txlen.toNat) :
    s.sendRest (n + 1) = s.sendNext.sendRest n := by
  rw [State.sendRest, State.sendRest, State.sendNext_txcur_toNat h, Memory.bytes, List.map_cons]
  simp [State.sendNext]

/-- As many TX_READY as bytes remain hand over all of them, in order (R120). -/
theorem execTimes_txReady {n : Nat} (hl : s.Legal) (htx : s.state = .transmitting)
    (hleft : s.txcur.toNat + n = s.txlen.toNat) : execTimes .txReady n s = .next (s.sendRest n) := by
  induction n generalizing s with
  | zero =>
    have hcur : s.txlen = s.txcur := BitVec.eq_of_toNat_eq hleft.symm
    have hnone : s.sendRest 0 = s := by
      simp only [State.sendRest, Memory.bytes, List.map_nil, List.append_nil]
      exact congrArg (fun cur => { s with txcur := cur }) hcur
    rw [execTimes, hnone]
  | succ n ih =>
    have hlt : s.txcur.toNat < s.txlen.toNat := by omega
    have hrest : s.sendNext.txcur.toNat + n = s.sendNext.txlen.toNat := by
      rw [State.sendNext_txcur_toNat hlt, Nat.add_assoc, Nat.add_comm 1 n]
      exact hleft
    rw [execTimes, exec_txReady_of_left hl ⟨htx, hlt⟩, State.sendRest_succ n hlt]
    exact ih (s := s.sendNext) hl htx hrest

theorem exec_txComplete_of_done (hl : s.Legal) (h : s.state = .transmitting ∧ s.txcur = s.txlen) :
    exec .txComplete s = .next s.frameReset := by
  rw [exec, execTxComplete, checked_of_legal hl, if_pos h]

theorem exec_txComplete_of_not_done (hl : s.Legal) (h : ¬ (s.state = .transmitting ∧ s.txcur = s.txlen)) :
    exec .txComplete s = .next s := by
  rw [exec, execTxComplete, checked_of_legal hl, if_neg h]

/-- frame_reset() is what R231 says it is. -/
theorem State.frameReset_isFrameResetOf (s : State) : s.frameReset.isFrameResetOf s :=
  ⟨rfl, rfl, rfl, rfl, rfl, rfl, rfl, rfl, rfl, rfl, rfl, rfl, rfl, rfl, rfl, rfl, rfl, rfl⟩

end Sys2Proof.Machine
end

section
/-! SUPPORT. What RX_BYTE, TICK, the requests and PROCESS do to STATE (R122). -/

namespace Sys2Proof.Machine

variable {s t : State}

/-- RX_BYTE changes STATE by the inspection, or by the last byte of a frame (R113, R117, R122). -/
theorem exec_rxByte_state {b : Byte} (h : exec (.rxByte b) s = .next t) :
    t.state = s.state ∨
      (s.state = .idle ∧ t.rxcur.toNat = s.params.inspectAt.bytes ∧
        ((t.state = .receiving ∧ s.addrMatch (t.rxbuf.read 0) = true ∧
            (t.rxbuf.read 1 = 0x03 ∨ t.rxbuf.read 1 = 0x06 ∨ t.rxbuf.read 1 = 0x10)) ∨
          (t.state = .ignoring ∧ ¬ (s.addrMatch (t.rxbuf.read 0) = true ∧
            (t.rxbuf.read 1 = 0x03 ∨ t.rxbuf.read 1 = 0x06 ∨ t.rxbuf.read 1 = 0x10))))) ∨
      (t.state = .processing ∧ s.state = .receiving ∧ t.rxcur.toNat = s.explen.toNat) := by
  obtain ⟨-, ⟨hi, rfl⟩ | ⟨hr, rfl⟩ | ⟨-, rfl⟩ | ⟨-, rfl⟩⟩ := exec_rxByte_cases h
  · have hmatch (a : Byte) : (rxIdle b s).addrMatch a = s.addrMatch a :=
      (congrArg (State.addrMatch · a) (rxIdle_stores b s) :)
    have hdecides := rxIdle_decides b s
    rw [State.Addressed, hmatch] at hdecides
    obtain ⟨-, hstate, -⟩ | ⟨hat, haddr, hstate, -⟩ | ⟨hat, hother, hstate, -⟩ := hdecides
    · exact .inl hstate
    · exact .inr (.inl ⟨hi, hat, .inl ⟨hstate, haddr⟩⟩)
    · exact .inr (.inl ⟨hi, hat, .inr ⟨hstate, hother⟩⟩)
  · rw [rxReceiving_eq]
    by_cases hfull : (s.storeRx b).rxcur.toNat = s.explen.toNat
    · exact .inr (.inr ⟨if_pos hfull, hr, hfull⟩)
    · exact .inl (if_neg hfull)
  · exact .inl (s.storeRx_state b)
  · exact .inl rfl

/-- TICK changes STATE by an expiry: the end of a frame that did not go on, or of the turnaround (R175 to R178, R122). -/
theorem exec_tick_state (h : exec .tick s = .next t) :
    t.state = s.state ∨
      (s.tmrEn = true ∧ s.tmrTarget.toNat ≤ s.tmrCount.toNat + 1 ∧
        ((t.state = .idle ∧ (s.state = .receiving ∨ s.state = .ignoring)) ∨
          (t.state = .transmitting ∧ s.state = .startingTransmission))) := by
  obtain ⟨-, ⟨-, rfl⟩ | ⟨-, -, rfl⟩ | ⟨hen, hexp, hexpire⟩⟩ := exec_tick_cases h
  · exact .inl rfl
  · exact .inl rfl
  · have hexp := of_decide_eq_true hexp
    obtain ⟨hi | hframe, rfl⟩ | ⟨hturn, rfl⟩ | ⟨-, rfl⟩ := State.expire_cases _ _ hexpire
    · exact .inl hi.symm
    · exact .inr ⟨hen, hexp, .inl ⟨rfl, hframe⟩⟩
    · exact .inr ⟨hen, hexp, .inr ⟨rfl, hturn⟩⟩
    · exact .inl rfl

/-- A request ran in Processing, and is still there between two words, or its response waits for the turnaround (R58,
R156). -/
structure State.Requested (s t : State) : Prop where
  processing : s.state = .processing
  after : t.state = s.state ∨ t.state = .startingTransmission

/-- The dispatcher's loop stays in Processing between two words, and leaves it only at the end of the response (R58). -/
theorem moveWord_requested {count : Nat} {access : Nat → State → State} {finish : State → State} {u : State}
    (hs : s.state = .processing) (hu : u.state = s.state) (haccess : ∀ j v, (access j v).state = v.state)
    (hfinish : ∀ v, (finish v).state = .startingTransmission) : s.Requested (moveWord count access finish u) :=
  moveWord_of_invariant (P := fun v => v.state = s.state) (Q := s.Requested) hu
    (fun j v _ hv => (haccess j v).trans hv) (fun v _ => ⟨hs, .inr (hfinish v)⟩) fun _ _ _ hv => ⟨hs, .inl hv⟩

theorem exec_fc03_state {addr : Byte} {start count : Word} (h : exec (.fc03 addr start count) s = .next t) :
    s.Requested t := by
  obtain ⟨-, hp, rfl⟩ := inProcessing_eq_next.1 h
  rw [fc03Step_eq]
  split
  · refine moveWord_requested hp ?_ (fun _ _ => rfl) fun _ => rfl
    rw [fc03Begin_eq]
  · exact ⟨hp, .inr rfl⟩

theorem exec_fc06_state {addr : Byte} {address value : Word} (h : exec (.fc06 addr address value) s = .next t) :
    s.Requested t := by
  obtain ⟨-, hp, rfl⟩ := inProcessing_eq_next.1 h
  unfold fc06Step
  split <;> exact ⟨hp, .inr rfl⟩

theorem exec_fc16_state {addr byteCount : Byte} {start count : Word} {words : List Word}
    (h : exec (.fc16 addr start count byteCount words) s = .next t) : s.Requested t := by
  obtain ⟨-, hp, rfl⟩ := inProcessing_eq_next.1 h
  unfold fc16Step
  split
  · exact moveWord_requested hp rfl (fun _ _ => rfl) fun _ => rfl
  · exact ⟨hp, .inr rfl⟩

theorem exec_requestOf_state {frame : List Byte} (h : exec (requestOf frame) s = .next t) : s.Requested t := by
  unfold requestOf at h
  split at h
  · exact exec_fc03_state h
  · split at h
    · exact exec_fc06_state h
    · exact exec_fc16_state h

/-- A pending request is one whose frame decodes to it. -/
theorem State.pendingRequest_eq_some {i : Instr} :
    s.pendingRequest = some i ↔ decodeFrame s.params.crcCheck s.params.fc16Base s.frame = .ok i := by
  unfold State.pendingRequest
  cases decodeFrame s.params.crcCheck s.params.fc16Base s.frame <;> simp [Except.toOption]

/-- PROCESS discards a frame whose CRC is not good, or runs its request (R140, R141, R122). -/
theorem exec_process_state (h : exec .process s = .next t) :
    (t.state = .idle ∧ s.state = .processing ∧ crcOk s.params.crcCheck s.frame = false) ∨
      (s.Requested t ∧ crcOk s.params.crcCheck s.frame = true) := by
  obtain ⟨-, hp, ⟨-, hcrc, rfl⟩ | ⟨hreq, hexec⟩⟩ := exec_process_cases h
  · exact .inl ⟨rfl, hp, hcrc⟩
  · obtain ⟨-, hcrc, -⟩ := decodeFrame_eq_ok.1 (State.pendingRequest_eq_some.1 hreq)
    exact .inr ⟨exec_requestOf_state hexec, hcrc⟩

end Sys2Proof.Machine
end

section
/-! PROOFS. The framer: bytes received in each STATE, whole frames received, the bytes of a response handed over, and the
transitions of STATE (41_framer.md R110 to R125). -/

namespace Sys2Proof.Proofs.Framer

open Sys2Proof.Machine

/-- Settles O14: the frame of a request has the length that its fields demand, so it is received whole, and decodes to the
request. -/
theorem addressedFrameIsReceived : Obligations.AddressedFrameIsReceived := by
  intro s i bytes hl hw hq hbase hcheck hwf henc hne haddr
  have hdecode := decode_of_encodeFrame hwf henc
  obtain ⟨-, -, hlen, -⟩ := decodeFrame_eq_ok.1 hdecode
  have hrequest : s.RequestFor bytes :=
    ⟨(s.addrMatch_iff _).2 ⟨hne, haddr⟩, hbase ▸ hlen, length_le_cap_of_encodeFrame hwf henc⟩
  obtain ⟨t, hexec, ht⟩ := receiveAll_request hl hw hq hrequest
  obtain ⟨hproc, hen⟩ := ht.complete rfl
  obtain ⟨hmin, -⟩ := expectedLength_bounds hlen
  have hbytes := inspectAt_bounds s.params.inspectAt
  have hframe : t.frame = bytes := by rw [ht.holding.frame, List.take_of_length_le hrequest.fits]
  have hpending : t.pendingRequest = some i := by
    rw [State.pendingRequest, ht.holding.params, hframe, hcheck, hbase]
    exact congrArg Except.toOption hdecode
  exact ⟨t, hexec, hproc, hframe, ht.explen (by omega), hen, hpending, ht.holding.rest⟩

/-- Settles O10: what is stored and what the timer does is the same in all cases; STATE and EXPLEN are what the inspection
decides. -/
theorem rxByteInIdle : Obligations.RxByteInIdle := by
  intro s b hl hw hi
  have hstores := rxIdle_stores b s
  have hread (a : Nat) : (rxIdle b s).rxbuf.read a = (s.storeRx b).rxbuf.read a := congrArg (fun u => u.rxbuf.read a) hstores
  refine ⟨rxIdle b s, exec_rxByte_of_idle hl hi b, (congrArg (fun u => u.rxcur.toNat) hstores).trans
    (s.storeRx_rxcur_toNat b), fun a => (hread a).trans (s.storeRx_read b hw a), congrArg State.tmrCount hstores,
    congrArg State.tmrEn hstores, congrArg State.tmrTarget hstores, ?_⟩
  have hdevaddr : (rxIdle b s).devaddr = s.devaddr := (congrArg State.devaddr hstores :)
  have hparams : (rxIdle b s).params = s.params := (congrArg State.params hstores :)
  have hrest : (rxIdle b s).withReceiveSide s = s := (congrArg (State.withReceiveSide · s) hstores :)
  have hfor := (rxIdle b s).addressed_iff
  rw [hdevaddr] at hfor
  obtain ⟨hat, hstate, hexp⟩ | ⟨hat, haddr, hstate, hlen⟩ | ⟨hat, hother, hstate, hexp⟩ := rxIdle_decides b s
  · exact ⟨fun _ => ⟨hstate.trans hi, hexp⟩, fun h => absurd h hat, fun h => absurd h hat, hrest⟩
  · obtain ⟨hmatch, hfunction⟩ := hfor.1 haddr
    obtain ⟨h8, h16⟩ := State.explen_of_requestLength hlen
    rw [hparams] at h16
    refine ⟨fun h => absurd hat h, fun _ h => absurd hmatch h, fun _ _ => ⟨fun h => ⟨hstate, h8 h⟩,
      fun h => ⟨hstate, h16 h⟩, fun hn3 hn6 hn16 => ?_⟩, hrest⟩
    exact absurd hfunction (not_or.2 ⟨hn3, not_or.2 ⟨hn6, hn16⟩⟩)
  · refine ⟨fun h => absurd hat h, fun _ _ => ⟨hstate, hexp⟩, fun _ hmatch => ⟨fun h => ?_, fun h => ?_,
      fun _ _ _ => ⟨hstate, hexp⟩⟩, hrest⟩
    · exact absurd (hfor.2 ⟨hmatch, h.imp_right .inl⟩) hother
    · exact absurd (hfor.2 ⟨hmatch, .inr (.inr h)⟩) hother

/-- Settles O11: the byte is stored in both cases, and the last one of the frame completes it. -/
theorem rxByteInReceiving : Obligations.RxByteInReceiving := by
  intro s b hl hw hr
  refine ⟨rxReceiving b s, exec_rxByte_of_receiving hl hr b, ?_⟩
  rw [rxReceiving_eq]
  exact ⟨s.storeRx_rxcur_toNat b, s.storeRx_read b hw, rfl, fun hfull => ⟨if_pos hfull, if_pos hfull⟩,
    fun hpart => ⟨(if_neg hpart).trans hr, if_neg hpart⟩, rfl⟩

/-- Settles O15: a first byte that is not DEVADDR, or no DEVADDR to match, makes the frame one that is not for the block. -/
theorem foreignFrameIsIgnored : Obligations.ForeignFrameIsIgnored := by
  intro s bytes hl hw hq hlen hforeign
  have hmatch : s.addrMatch (byteAt bytes 0) = false := by
    rw [Bool.eq_false_iff, Ne, State.addrMatch_iff]
    rintro ⟨hne, haddr⟩
    exact hforeign.elim hne fun h => h haddr
  obtain ⟨t, hexec, ht⟩ := receiveAll_foreign hl hw hq hmatch
  exact ⟨t, hexec, ht.state.trans (if_neg (by omega)), ht.holding.rxcur, ht.holding.rest⟩

/-- Settles O18: each TX_READY hands over one byte more, and after the last one no byte remains. -/
theorem drainEmitsTheResponse : Obligations.DrainEmitsTheResponse := fun s n hl htx hleft =>
  ⟨s.sendRest n, execTimes_txReady hl htx hleft, rfl,
    exec_txReady_of_not_left (s := s.sendRest n) hl fun h => Nat.lt_irrefl _ h.2⟩

/-- Settles O57, by the instruction: those that change STATE by their own lemmas, the others leave it as it is. -/
theorem stateTransitions : Obligations.StateTransitions := by
  intro i s t h
  cases i with
  | rxByte b =>
    obtain hsame | ⟨hi, hat, ⟨hrow, hmatch, hfunction⟩ | ⟨hrow, hother⟩⟩ | ⟨hrow, hr, hfull⟩ := exec_rxByte_state h
    · exact .inl hsame
    · simpa [hrow, hi, hat, hmatch] using hfunction
    · simpa [hrow, hi, hat] using hother
    · simp [hrow, hr, hfull]
  | tick =>
    obtain hsame | ⟨hen, hexp, ⟨hrow, hs⟩ | ⟨hrow, hs⟩⟩ := exec_tick_state h
    · exact .inl hsame
    · simp [hrow, hen, hexp, hs]
    · simp [hrow, hen, hexp, hs]
  | txComplete =>
    obtain ⟨-, ⟨htx, hdone, rfl⟩ | ⟨-, rfl⟩⟩ := exec_txComplete_cases h
    · simp [htx, hdone]
    · exact .inl rfl
  | process =>
    obtain ⟨hrow, hp, hcrc⟩ | ⟨⟨hp, hsame | hrow⟩, hcrc⟩ := exec_process_state h
    · simp [hrow, hp, hcrc]
    · exact .inl hsame
    · simp [hrow, hp, hcrc]
  | fc03 addr start count =>
    obtain ⟨hp, hsame | hrow⟩ := exec_fc03_state h
    · exact .inl hsame
    · simp [hrow, hp]
  | fc06 addr address value =>
    obtain ⟨hp, hsame | hrow⟩ := exec_fc06_state h
    · exact .inl hsame
    · simp [hrow, hp]
  | fc16 addr start count byteCount words =>
    obtain ⟨hp, hsame | hrow⟩ := exec_fc16_state h
    · exact .inl hsame
    · simp [hrow, hp]
  | reset =>
    obtain ⟨-, rfl⟩ := exec_reset_eq_next.1 h
    exact .inr (.inl ⟨rfl, .inl rfl⟩)
  | powerOn =>
    obtain ⟨-, rfl⟩ := exec_powerOn_eq_next.1 h
    exact .inr (.inl ⟨rfl, .inr rfl⟩)
  | txReady =>
    obtain ⟨-, ⟨-, -, rfl⟩ | ⟨-, rfl⟩⟩ := exec_txReady_cases h <;> exact .inl rfl
  | setAddr a =>
    obtain ⟨-, rfl⟩ := exec_setAddr_eq_next.1 h
    exact .inl rfl
  | loopRead k =>
    obtain ⟨-, -, rfl⟩ := exec_loopRead_eq_next.1 h
    exact .inl rfl
  | loopWrite k v =>
    obtain ⟨-, -, rfl⟩ := exec_loopWrite_eq_next.1 h
    exact .inl rfl

/-- Settles O12: the byte is stored and the timer restarted. -/
theorem rxByteInIgnoring : Obligations.RxByteInIgnoring := by
  intro s b hl hw hg
  refine ⟨rxIgnoring b s, exec_rxByte_of_ignoring hl hg b, ?_⟩
  rw [rxIgnoring_eq]
  exact ⟨s.storeRx_rxcur_toNat b, s.storeRx_read b hw, rfl, rfl⟩

/-- Settles O13: in each of the three states the rule is that of R119. -/
theorem rxByteLostWhileBusy : Obligations.RxByteLostWhileBusy := by
  intro s b hl hbusy
  obtain h | h | h := hbusy <;> simp [exec, execRxByte, hl, h]

/-- Settles O16, by whether bytes remain. -/
theorem txReadyEmitsNextByte : Obligations.TxReadyEmitsNextByte := by
  intro s hl
  by_cases hleft : s.state = .transmitting ∧ s.txcur.toNat < s.txlen.toNat
  · rw [if_pos hleft]
    exact exec_txReady_of_left hl hleft
  · rw [if_neg hleft]
    exact exec_txReady_of_not_left hl hleft

/-- Settles O17, by whether the last byte has been handed over. -/
theorem txCompleteReleasesTheLine : Obligations.TxCompleteReleasesTheLine := by
  intro s hl
  by_cases hdone : s.state = .transmitting ∧ s.txcur = s.txlen
  · exact ⟨_, exec_txComplete_of_done hl hdone, fun _ => s.frameReset_isFrameResetOf, fun h => absurd hdone h⟩
  · exact ⟨s, exec_txComplete_of_not_done hl hdone, fun h => absurd h hdone, fun _ => rfl⟩

/-- Settles O28: SET_ADDR answers in every legal state. -/
theorem setAddrInAnyState : Obligations.SetAddrInAnyState := fun _ _ hl => exec_setAddr_eq_next.2 ⟨hl, rfl⟩

end Sys2Proof.Proofs.Framer
end

section
/-! SUPPORT. PROCESS by what the received frame decodes to, the turns that run it, the requests out of range, and the bytes
of an FC06 frame (R58, R75, R140 to R154). -/

namespace Sys2Proof.Machine

variable {s : State}

/-! ### PROCESS by what the frame decodes to -/

/-- PROCESS runs the request in the receive buffer (R140, R142). -/
theorem exec_process_of_pending {i : Instr} (hl : s.Legal) (hp : s.state = .processing)
    (h : s.pendingRequest = some i) : exec .process s = exec i s := by
  have hd := State.pendingRequest_eq_some.1 h
  obtain ⟨-, -, -, rfl⟩ := decodeFrame_eq_ok.1 hd
  have hrun : exec .process s = runRequest (requestOf s.frame) s := by simp [exec, execProcess, hl, hp, hd]
  exact hrun.trans (runRequest_requestOf s.frame s)

/-- PROCESS discards a frame whose CRC is not good (R141). -/
theorem exec_process_of_badCrc (hl : s.Legal) (hp : s.state = .processing)
    (h : decodeFrame s.params.crcCheck s.params.fc16Base s.frame = .error .badCrc) :
    exec .process s = .next s.frameReset := by
  simp [exec, execProcess, hl, hp, h]

/-- PROCESS refuses a function code that the block does not know (R142). -/
theorem exec_process_of_unknownFunction (hl : s.Legal) (hp : s.state = .processing)
    (h : decodeFrame s.params.crcCheck s.params.fc16Base s.frame = .error .unknownFunction) :
    exec .process s = .refused .unreachableFc := by
  simp [exec, execProcess, hl, hp, h]

/-- Outside Processing PROCESS is not enabled (R140, log 10). -/
theorem exec_process_of_ne (hl : s.Legal) (hp : s.state ≠ .processing) : exec .process s = .refused .notProcessing := by
  simp [exec, execProcess, hl, hp]

/-- A frame with a good CRC and a function code that the block does not know is refused as such (R85). -/
theorem decodeFrame_of_unknownFunction {check : CrcCheck} {base : Fc16Base} {frame : List Byte} (h8 : 8 ≤ frame.length)
    (hcrc : crcOk check frame = true)
    (hfunction : ¬ (byteAt frame 1 = 0x03 ∨ byteAt frame 1 = 0x06 ∨ byteAt frame 1 = 0x10)) :
    decodeFrame check base frame = .error .unknownFunction := by
  have hnone : expectedLength base (byteAt frame 1) (wordAt frame 4) = none :=
    Option.eq_none_iff_forall_ne_some.2 fun len hlen => hfunction ((expectedLength_isSome_iff ..).1 ⟨len, hlen⟩)
  simp [decodeFrame, Nat.not_lt.2 h8, hcrc, hnone]

/-- Whatever request a frame spells, in Processing it answers a next state (R140). -/
theorem exec_requestOf_answers (hl : s.Legal) (hp : s.state = .processing) (frame : List Byte) :
    ∃ t, exec (requestOf frame) s = .next t := by
  unfold requestOf
  split
  · exact ⟨_, inProcessing_of_legal hl hp _⟩
  · split <;> exact ⟨_, inProcessing_of_legal hl hp _⟩

/-! ### The turns that run PROCESS -/

/-- In Processing an empty stream leaves the move to the dispatcher, between two words too (R58, R160). -/
theorem select_nil_of_processing (hp : s.state = .processing) (hin : s.input = []) : select s = .run .process s := by
  cases hm : s.midProcess <;> simp [select, selectMid, dispatcherTurn, hm, hin, hp]

/-- In Processing a turn of the dispatcher is taken by PROCESS, between two words too (R58, R140). -/
theorem select_dispatcher_of_processing {rest : List Turn} (hp : s.state = .processing)
    (hin : s.input = .dispatcher :: rest) : select s = .run .process { s with input := rest } := by
  cases hm : s.midProcess <;> simp [select, selectMid, dispatcherTurn, hm, hin, hp]

/-- While a PROCESS step is under way an event waits (R58). -/
theorem select_event_of_mid {w : EventWord} {rest : List Turn} (hm : s.midProcess = true)
    (hin : s.input = .event w :: rest) : select s = .run .process s := by
  simp [select, selectMid, hm, hin]

/-- While a PROCESS step is under way power coming on waits (R58, log 12). -/
theorem select_powerOn_of_mid {rest : List Turn} (hm : s.midProcess = true) (hin : s.input = .powerOn :: rest) :
    select s = .run .process s := by
  simp [select, selectMid, hm, hin]

/-- Between two words only an access of the control loop is let in; another event waits (R58). -/
theorem select_between_of_not_loopPort {w : EventWord} {i : Instr} {rest : List Turn} (hm : s.midProcess = true)
    (hin : s.input = .between w :: rest) (hd : decodeEvent w = .ok i) (hi : i.isLoopPort = false) :
    select s = .run .process s := by
  simp [select, selectMid, hm, hin, hd, hi]

theorem isLoopPort_eq_false {i : Instr} (hread : ∀ k, i ≠ .loopRead k) (hwrite : ∀ k v, i ≠ .loopWrite k v) :
    i.isLoopPort = false := by
  cases i with
  | loopRead k => exact absurd rfl (hread k)
  | loopWrite k v => exact absurd rfl (hwrite k v)
  | _ => rfl

/-! ### Out of range -/

/-- The exception response in TXBUF (R154). -/
theorem State.exception_answeredFrom (hw : s.txbuf.wf = true) (function code : Byte) :
    (s.exception function code).answeredFrom s (withCrc [s.devaddr, function ||| 0x80, code]) :=
  State.respond_answeredFrom hw (by simp [cap])

theorem State.inRange_eq_true_iff {start count : Word} :
    s.inRange start count = true ↔ start.toNat + count.toNat ≤ s.n := decide_eq_true_iff

/-- FC03 of a register that does not exist takes the exception (R143). -/
theorem fc03Step_of_gt {start count : Word} (h : s.n < start.toNat + count.toNat) :
    fc03Step start count s = s.exception 0x03 2 :=
  if_neg fun hrange => Nat.not_le.2 h (State.inRange_eq_true_iff.1 hrange)

/-- FC06 of a register that does not exist takes the exception (R147). -/
theorem fc06Step_of_ge {address : Word} (h : s.n ≤ address.toNat) (value : Word) :
    fc06Step address value s = s.exception 0x06 2 :=
  if_neg (Nat.not_lt.2 h)

/-- FC16 of a register that does not exist takes the exception (R150). -/
theorem fc16Step_of_gt {start count : Word} (h : s.n < start.toNat + count.toNat) (words : List Word) :
    fc16Step start count words s = s.exception 0x10 2 :=
  if_neg fun hrange => Nat.not_le.2 h (State.inRange_eq_true_iff.1 hrange)

/-! ### The echo of FC06 -/

/-- A frame that passes the normative check is its bytes before the CRC, finished by their CRC (R104). -/
theorem eq_withCrc_of_crcOk {frame : List Byte} (hlen : 2 ≤ frame.length) (h : crcOk .standard frame = true) :
    frame = withCrc (frame.take (frame.length - 2)) := by
  obtain ⟨l, r, htail⟩ := List.length_eq_two.1 (show (frame.drop (frame.length - 2)).length = 2 by simp; omega)
  have hsplit : frame.take (frame.length - 2) ++ [l, r] = frame := htail ▸ List.take_append_drop _ _
  obtain ⟨hlow, hhigh⟩ := (crcOk_append_pair (frame.take (frame.length - 2)) l r).1 (by rwa [hsplit])
  rw [withCrc, ← hlow, ← hhigh, hsplit]

/-- The fields of a frame that holds an FC06 (R75). -/
theorem requestOf_eq_fc06 {frame : List Byte} {addr : Byte} {address value : Word}
    (h : requestOf frame = .fc06 addr address value) :
    byteAt frame 1 = 0x06 ∧ byteAt frame 0 = addr ∧ wordAt frame 2 = address ∧ wordAt frame 4 = value := by
  unfold requestOf at h
  split at h
  · cases h
  · split at h <;> cases h
    next h6 => exact ⟨h6, rfl, rfl, rfl⟩

/-- A list of eight bytes begins with its bytes 0 to 5. -/
theorem take_six_eq_byteAt {frame : List Byte} (h : frame.length = 8) :
    frame.take 6 = [byteAt frame 0, byteAt frame 1, byteAt frame 2, byteAt frame 3, byteAt frame 4, byteAt frame 5] := by
  refine List.ext_getElem (by simp [h]) fun k hk _ => ?_
  have hk6 : k < 6 := by simpa [h] using hk
  interval_cases k <;> simp [byteAt, h]

/-- A frame that decodes to an FC06 under the normative check is the request's own encoding (R75, R104). -/
theorem frame_of_decodeFrame_fc06 {base : Fc16Base} {frame : List Byte} {addr : Byte} {address value : Word}
    (h : decodeFrame .standard base frame = .ok (.fc06 addr address value)) :
    frame = withCrc [addr, 0x06, hi address, lo address, hi value, lo value] := by
  obtain ⟨-, hcrc, hlen, hreq⟩ := decodeFrame_eq_ok.1 h
  obtain ⟨hfunction, rfl, rfl, rfl⟩ := requestOf_eq_fc06 hreq.symm
  have h8 : frame.length = 8 := by simpa [expectedLength, hfunction] using hlen.symm
  have htake := take_six_eq_byteAt h8
  rw [hfunction] at htake
  conv_lhs => rw [eq_withCrc_of_crcOk (by omega) hcrc, h8, htake]
  simp [wordAt]

end Sys2Proof.Machine
end

section
/-! SUPPORT. The dispatcher's loop run to its end without interference: every word moved, and then the response (R58, R144,
R151). -/

namespace Sys2Proof.Machine

variable {s : State}

/-- The state with this record of the words moved (R58). -/
def State.withWordsDone (d : Option Nat) (s : State) : State := { s with wordsDone := d }

/-- The first j words moved, without the record of it. -/
def wordsMoved (access : Nat → State → State) : Nat → State → State
  | 0, s => s
  | j + 1, s => access j (wordsMoved access j s)

/-- Moving words keeps what each word access keeps. -/
theorem wordsMoved_of_invariant {P : State → Prop} {access : Nat → State → State} (hs : P s)
    (haccess : ∀ j u, P u → P (access j u)) (j : Nat) : P (wordsMoved access j s) := by
  induction j with
  | zero => exact hs
  | succ j ih => exact haccess j _ ih

section
variable {i : Instr} {count : Nat} {access : Nat → State → State} {finish : State → State}

/-- The step that finds at most one word left, j words being moved, ends with all words moved and the response finished. -/
theorem moveWord_ends {d : Option Nat}
    (haccess : ∀ j v d, access j (State.withWordsDone d v) = (access j v).withWordsDone d)
    (hfinish : ∀ v d, finish (State.withWordsDone d v) = finish v) (hle : d.getD 0 ≤ count) (hend : count ≤ d.getD 0 + 1) :
    moveWord count access finish ((wordsMoved access (d.getD 0) s).withWordsDone d) =
      finish (wordsMoved access count s) := by
  obtain hnone | hlast : count ≤ d.getD 0 ∨ d.getD 0 + 1 = count := by omega
  · rw [moveWord_of_le (s := State.withWordsDone d _) hnone, hfinish, Nat.le_antisymm hle hnone]
  · rw [moveWord_last (s := State.withWordsDone d _) hlast, haccess, hfinish, ← hlast]
    rfl

/-- A request that runs the dispatcher's loop, executed until no word is left, moves them all and finishes the response, if
the record of the words moved is no matter of a word access or of the end of the response. The loop begins in `s`; `u` is a
state in which `d` words of it have been moved. -/
theorem execTimes_moveWord {u : State} {d : Option Nat} {n : Nat}
    (haccess : ∀ j v d, access j (State.withWordsDone d v) = (access j v).withWordsDone d)
    (hfinish : ∀ v d, finish (State.withWordsDone d v) = finish v)
    (hbetween : ∀ j, exec i ((wordsMoved access j s).withWordsDone (some j)) =
      .next (moveWord count access finish ((wordsMoved access j s).withWordsDone (some j))))
    (hfirst : exec i u = .next (moveWord count access finish ((wordsMoved access (d.getD 0) s).withWordsDone d)))
    (hle : d.getD 0 ≤ count) (hn : max 1 (count - d.getD 0) = n + 1) :
    execTimes i (n + 1) u = .next (finish (wordsMoved access count s)) := by
  induction n generalizing u d with
  | zero =>
    rw [execTimes, hfirst, moveWord_ends haccess hfinish hle (by omega)]
    rfl
  | succ n ih =>
    have hmore : d.getD 0 + 1 < count := by omega
    rw [moveWord_between (s := State.withWordsDone d _) hmore, haccess] at hfirst
    rw [execTimes, hfirst]
    refine ih (d := some (d.getD 0 + 1)) (hbetween (d.getD 0 + 1)) ?_ ?_
    · exact hmore.le
    · rw [Option.getD_some]; omega

end

/-- Where a request for words runs the dispatcher's loop: a legal state in Processing, its range check passed (R143, R150). -/
structure State.Ready (start count : Word) (s : State) : Prop where
  legal : s.Legal
  processing : s.state = .processing
  range : start.toNat + count.toNat ≤ s.n

/-! ### FC16 -/

/-- FC16 in range runs the dispatcher's loop (R151). -/
theorem State.Ready.exec_fc16 {start count : Word} (h : s.Ready start count) (addr byteCount : Byte) (words : List Word) :
    exec (.fc16 addr start count byteCount words) s =
      .next (moveWord count.toNat (fc16Word start words) (fc16Finish start count) s) :=
  fc16Step_of_inRange h.range words ▸ inProcessing_of_legal h.legal h.processing _

/-- Moving words of an FC16 writes the register map alone (R52). -/
theorem fc16Words_eq (start : Word) (words : List Word) (j : Nat) (s : State) :
    wordsMoved (fc16Word start words) j s = { s with regs := (wordsMoved (fc16Word start words) j s).regs } := by
  induction j with
  | zero => rfl
  | succ j ih => exact congrArg (fc16Word start words j) ih

/-- After j words of an FC16 exactly registers start to start + j - 1 hold payload words (R151, R153). -/
theorem fc16Words_getElem? {start : Word} {words : List Word} {j : Nat} (hwords : j ≤ words.length)
    (hregs : start.toNat + j ≤ s.regs.length) (k : Nat) :
    (wordsMoved (fc16Word start words) j s).regs[k]? =
      if start.toNat ≤ k ∧ k < start.toNat + j then words[k - start.toNat]? else s.regs[k]? := by
  induction j with
  | zero => rw [if_neg (by omega)]; rfl
  | succ j ih =>
    have hlen : (wordsMoved (fc16Word start words) j s).regs.length = s.regs.length :=
      wordsMoved_of_invariant (P := fun u => u.regs.length = s.regs.length) rfl (fun _ _ => List.length_set.trans) j
    have hword : words[j]? = some words[j] := List.getElem?_eq_getElem (by omega)
    obtain ⟨hset, hkeep⟩ := fc16Word_registerWritten (s := wordsMoved (fc16Word start words) j s) (start := start)
      (by omega) hword
    rw [wordsMoved]
    by_cases hk : k = start.toNat + j
    · rw [if_pos (by omega), hk, hset, Nat.add_sub_cancel_left, hword]
    · rw [hkeep k hk, ih (by omega) (by omega)]
      exact if_congr (by omega) rfl rfl

/-- FC16 in range, run without interference, writes all its words and then echoes start and count (R151, R152). -/
theorem State.Ready.execTimes_fc16 {start count : Word} (h : s.Ready start count) (hd : s.wordsDone = none)
    (addr byteCount : Byte) (words : List Word) :
    execTimes (.fc16 addr start count byteCount words) (max 1 count.toNat) s =
      .next (fc16Finish start count (wordsMoved (fc16Word start words) count.toNat s)) := by
  obtain ⟨n, hn⟩ : ∃ n, max 1 count.toNat = n + 1 := ⟨max 1 count.toNat - 1, by omega⟩
  have hbegin : s = s.withWordsDone none := hd ▸ rfl
  rw [hn]
  refine execTimes_moveWord (d := none) (fun _ _ _ => rfl) (fun _ _ => rfl) (fun j => ?_) ?_ (Nat.zero_le _) hn
  · have hready : (wordsMoved (fc16Word start words) j s).Ready start count :=
      wordsMoved_of_invariant h (fun _ _ hu => ⟨hu.legal.setReg _ _, hu.processing, hu.range⟩) j
    exact State.Ready.exec_fc16 (s := State.withWordsDone (some j) _) ⟨hready.legal, hready.processing, hready.range⟩ ..
  · exact hbegin ▸ h.exec_fc16 addr byteCount words

/-! ### FC03 -/

/-- FC03 in range runs the dispatcher's loop (R144). -/
theorem State.Ready.exec_fc03 {start count : Word} (h : s.Ready start count) (addr : Byte) :
    exec (.fc03 addr start count) s =
      .next (moveWord count.toNat (fc03Word start) (fc03Finish count) (fc03Begin count s)) :=
  fc03Step_of_inRange h.range ▸ inProcessing_of_legal h.legal h.processing _

theorem Memory.writeList_append (m : Memory) (a : Nat) (xs ys : List Byte) :
    m.writeList a (xs ++ ys) = (m.writeList a xs).writeList (a + xs.length) ys := by
  induction xs generalizing m a with
  | nil => rfl
  | cons x xs ih => simp [Memory.writeList, ih, Nat.add_assoc, Nat.add_comm 1]

theorem wordBytes_append (xs ys : List Word) : wordBytes (xs ++ ys) = wordBytes xs ++ wordBytes ys := by
  induction xs with
  | nil => rfl
  | cons x xs ih => simp [wordBytes, ih]

/-- The bytes of an FC03 response after its first j words (R144). -/
def fc03Bytes (start count : Word) (j : Nat) (s : State) : List Byte :=
  [s.devaddr, 0x03, BitVec.ofNat 8 (2 * count.toNat)] ++ wordBytes ((s.regs.drop start.toNat).take j)

theorem length_fc03Bytes {start count : Word} {j : Nat} (h : start.toNat + j ≤ s.regs.length) :
    (fc03Bytes start count j s).length = 3 + 2 * j := by
  simp [fc03Bytes]
  omega

/-- One word more of an FC03 response (R144). -/
theorem fc03Bytes_succ {start count : Word} {j : Nat} (h : start.toNat + j < s.regs.length) :
    fc03Bytes start count (j + 1) s =
      fc03Bytes start count j s ++ [hi (s.reg (start.toNat + j)), lo (s.reg (start.toNat + j))] := by
  have hreg : (s.regs.drop start.toNat)[j]? = some (s.reg (start.toNat + j)) := by simp [State.reg, h]
  rw [fc03Bytes, List.take_add_one, hreg, wordBytes_append, ← List.append_assoc]
  rfl

/-- Moving words of an FC03 after its header fills TXBUF with the bytes of the response so far (R144). -/
theorem fc03Words_eq {start count : Word} {j : Nat} (h : start.toNat + j ≤ s.regs.length) :
    wordsMoved (fc03Word start) j (fc03Header count s) = s.putTx 0 (fc03Bytes start count j s) := by
  induction j with
  | zero => simp [wordsMoved, fc03Header, fc03Bytes, wordBytes]
  | succ j ih =>
    rw [wordsMoved, ih (by omega), State.putTx, State.putTx, fc03Bytes_succ (by omega), Memory.writeList_append,
      length_fc03Bytes (by omega), Nat.zero_add]
    rfl

/-- FC03 in range, run without interference, responds with its registers (R144). -/
theorem State.Ready.execTimes_fc03 {start count : Word} (h : s.Ready start count) (hd : s.wordsDone = none)
    (addr : Byte) :
    execTimes (.fc03 addr start count) (max 1 count.toNat) s =
      .next (s.respond (fc03Bytes start count count.toNat s)) := by
  obtain ⟨n, hn⟩ : ∃ n, max 1 count.toNat = n + 1 := ⟨max 1 count.toNat - 1, by omega⟩
  have hregs : start.toNat + count.toNat ≤ s.regs.length := h.legal.regs_length.symm ▸ h.range
  have hfinish : fc03Finish count (wordsMoved (fc03Word start) count.toNat (fc03Header count s)) =
      s.respond (fc03Bytes start count count.toNat s) := by
    rw [fc03Words_eq hregs, State.respond, length_fc03Bytes hregs]
    rfl
  have hbegin : fc03Begin count s = (fc03Header count s).withWordsDone none := (if_pos hd).trans (hd ▸ rfl)
  rw [hn, ← hfinish]
  refine execTimes_moveWord (d := none) (fun _ _ _ => rfl) (fun _ _ => rfl) (fun j => ?_) ?_ (Nat.zero_le _) hn
  · have hready : (wordsMoved (fc03Word start) j (fc03Header count s)).Ready start count :=
      wordsMoved_of_invariant ⟨h.legal, h.processing, h.range⟩
        (fun _ _ hu => ⟨hu.legal, hu.processing, hu.range⟩) j
    exact State.Ready.exec_fc03 (s := State.withWordsDone (some j) _) ⟨hready.legal, hready.processing, hready.range⟩ addr
  · exact hbegin ▸ h.exec_fc03 addr

end Sys2Proof.Machine
end

section
/-! SUPPORT. The address throughout a transaction: what the request and the response must hold, and which instructions keep it
(R86, R148, R159, R238). -/

namespace Sys2Proof.Machine

variable {s t : State}

/-- The request's address byte is DEVADDR, which is not 0 (R86). -/
def State.requestHeld (s : State) : Prop := s.devaddr ≠ 0 ∧ s.rxbuf.read 0 = s.devaddr

/-- A state in which the inspection has not been passed has no address to hold. -/
theorem State.addressHeld_of_unanswered (hst : s.state = .idle ∨ s.state = .ignoring) (hd : s.wordsDone = none) :
    s.addressHeld := by
  obtain hst | hst := hst <;> simp [State.addressHeld, hst, hd]

/-- Before the response is begun it is enough that the request's address is held. -/
theorem State.addressHeld_of_request (hreq : s.requestHeld) (hst : s.state = .receiving ∨ s.state = .processing)
    (hd : s.wordsDone = none ∨ s.rxbuf.read 1 ≠ 0x03) : s.addressHeld := by
  refine ⟨fun _ => hreq, fun h => ?_, fun hsome h3 => ?_⟩
  · obtain hst | hst := hst <;> simp [hst] at h
  · obtain hnone | hne := hd
    · simp [hnone] at hsome
    · exact absurd h3 hne

/-- A response that begins with DEVADDR holds the address, if the request does. -/
theorem State.addressHeld_of_response (hreq : s.requestHeld) (htx : s.txbuf.read 0 = s.devaddr) : s.addressHeld :=
  ⟨fun _ => hreq, fun _ => htx, fun _ _ => htx⟩

/-- A frame that PROCESS may run is for the block. -/
theorem State.addressHeld.requestHeld_of_processing (ha : s.addressHeld) (hp : s.state = .processing) : s.requestHeld :=
  ha.1 (.inr (.inl hp))

/-! ### The events -/

theorem State.frameReset_addressHeld (s : State) : s.frameReset.addressHeld :=
  State.addressHeld_of_unanswered (.inl rfl) rfl

/-- The inspection begins to receive a frame only if its address byte is DEVADDR; a later byte goes past it (R113, R117). -/
theorem State.addressHeld.exec_rxByte {b : Byte} (ha : s.addressHeld) (hs : s.Inv)
    (h : exec (.rxByte b) s = .next t) : t.addressHeld := by
  obtain ⟨-, ⟨hi, rfl⟩ | ⟨hr, rfl⟩ | ⟨hg, rfl⟩ | ⟨-, rfl⟩⟩ := exec_rxByte_cases h
  · have hd : (rxIdle b s).wordsDone = none :=
      (congrArg State.wordsDone (rxIdle_stores b s)).trans (hs.wordsDone_of_ne (by simp [hi]))
    obtain ⟨-, hst, -⟩ | ⟨-, haddr, hst, -⟩ | ⟨-, -, hst, -⟩ := rxIdle_decides b s
    · exact State.addressHeld_of_unanswered (.inl (hst.trans hi)) hd
    · exact State.addressHeld_of_request ((State.addressed_iff _).1 haddr).1 (.inl hst) (.inl hd)
    · exact State.addressHeld_of_unanswered (.inr hst) hd
  · have hrow := hs.row
    simp only [State.rowHolds, hr] at hrow
    obtain ⟨hcur, -⟩ := hrow
    have hbytes := inspectAt_bounds s.params.inspectAt
    obtain ⟨hne, haddr⟩ := ha.1 (.inl hr)
    have hread : (s.storeRx b).rxbuf.read 0 = s.rxbuf.read 0 := by rw [s.storeRx_read b hs.rxWf, if_neg (by omega)]
    rw [rxReceiving_eq]
    refine State.addressHeld_of_request ⟨hne, hread.trans haddr⟩ ?_ (.inl (hs.wordsDone_of_ne (by simp [hr])))
    split
    · exact .inr rfl
    · exact .inl hr
  · rw [rxIgnoring_eq]
    exact State.addressHeld_of_unanswered (.inr hg) (hs.wordsDone_of_ne (by simp [hg]))
  · exact ha

/-- The end of the turnaround leaves the response as it was built (R178). -/
theorem State.addressHeld.beginTx (ha : s.addressHeld) (hst : s.state = .startingTransmission) :
    s.beginTx.addressHeld := by
  obtain ⟨hreq, htx, -⟩ := ha
  rw [State.beginTx_eq]
  exact State.addressHeld_of_response (hreq (.inr (.inr (.inl hst)))) (htx (.inl hst))

theorem State.addressHeld.exec_tick (ha : s.addressHeld) (h : exec .tick s = .next t) : t.addressHeld := by
  obtain ⟨-, ⟨-, rfl⟩ | ⟨-, -, rfl⟩ | ⟨-, -, hexp⟩⟩ := exec_tick_cases h
  · exact ha
  · exact ha
  · obtain ⟨-, rfl⟩ | ⟨hst, rfl⟩ | ⟨-, rfl⟩ := State.expire_cases _ _ hexp
    · exact State.frameReset_addressHeld _
    · exact State.addressHeld.beginTx (s := s.timerCount) ha hst
    · exact ha

/-! ### The requests -/

/-- A response built in one go begins with the first byte of its payload. -/
theorem State.respond_addressHeld (hw : s.txbuf.wf = true) (hreq : s.requestHeld) {rest : List Byte}
    (hlen : rest.length + 3 ≤ cap) : (s.respond (s.devaddr :: rest)).addressHeld := by
  refine State.addressHeld_of_response hreq ?_
  rw [State.respond_read s _ hw (by simpa using hlen), if_pos (Nat.succ_pos _)]
  rfl

theorem State.exception_addressHeld (hw : s.txbuf.wf = true) (hreq : s.requestHeld) (function code : Byte) :
    (s.exception function code).addressHeld :=
  State.respond_addressHeld hw hreq (by simp [cap])

/-- The header of an FC03 response begins with DEVADDR, and its words and its CRC come after it (R144). -/
theorem fc03Step_addressHeld {start count : Word} (hl : s.Legal) (hw : s.txbuf.wf = true) (ha : s.addressHeld)
    (hp : s.state = .processing) (h3 : s.rxbuf.read 1 = 0x03) : (fc03Step start count s).addressHeld := by
  have hreq := ha.requestHeld_of_processing hp
  by_cases hrange : start.toNat + count.toNat ≤ s.n
  · have hn := hl.n_le
    obtain ⟨m, hm, hbetween, hlast⟩ := fc03Step_cases hl hw hrange
    have hbegins : m.read 0 = s.devaddr := by
      cases hd : s.wordsDone with
      | none => exact (hm.header hd).1
      | some j =>
        obtain ⟨-, -, hmid⟩ := ha
        have hkeep : m.read 0 = s.txbuf.read 0 := hm.otherBytes 0 (fun _ => by omega) (.inr (by simp [hd]))
        exact hkeep.trans (hmid (by simp [hd]) h3)
    by_cases hmore : s.wordsDone.getD 0 + 1 < count.toNat
    · rw [hbetween hmore]
      exact State.addressHeld_of_response hreq hbegins
    · rw [hlast (by omega)]
      obtain ⟨hkeep, -⟩ := fc03Finish_txbuf (s := { s with txbuf := m }) hm.wf (count := count) (by unfold cap; omega)
      exact State.addressHeld_of_response hreq ((hkeep 0 (by omega)).trans hbegins)
  · rw [fc03Step_of_gt (by omega)]
    exact State.exception_addressHeld hw hreq 0x03 2

theorem fc06Step_addressHeld (hw : s.txbuf.wf = true) (hreq : s.requestHeld) (address value : Word) :
    (fc06Step address value s).addressHeld := by
  unfold fc06Step
  split
  · exact State.respond_addressHeld (s := s.setReg address.toNat value) hw hreq (by simp [cap])
  · exact State.exception_addressHeld hw hreq 0x06 2

/-- Moving words of an FC16 leaves both buffers as they are; its echo begins with DEVADDR (R151). -/
theorem fc16Step_addressHeld {start count : Word} {words : List Word} (hw : s.txbuf.wf = true) (hreq : s.requestHeld)
    (hp : s.state = .processing) (h3 : s.rxbuf.read 1 ≠ 0x03) : (fc16Step start count words s).addressHeld := by
  unfold fc16Step
  split
  · have hecho (u : State) (huw : u.txbuf.wf = true) (hureq : u.requestHeld) : (fc16Finish start count u).addressHeld :=
      State.respond_addressHeld huw hureq (by simp [cap])
    obtain ⟨-, h⟩ | ⟨-, h⟩ | ⟨-, h⟩ := moveWord_cases count.toNat (fc16Word start words) (fc16Finish start count) s <;>
      rw [h]
    · exact hecho s hw hreq
    · exact hecho (fc16Word start words _ s) hw hreq
    · exact State.addressHeld_of_request hreq (.inr hp) (.inr h3)
  · exact State.exception_addressHeld hw hreq 0x10 2

theorem State.addressHeld.exec_process (ha : s.addressHeld) (hs : s.Inv) (h : exec .process s = .next t) :
    t.addressHeld := by
  obtain ⟨hl, hp, ⟨-, -, rfl⟩ | ⟨hpending, hexec⟩⟩ := exec_process_cases h
  · exact State.frameReset_addressHeld s
  obtain ⟨h8, -⟩ := decodeFrame_eq_ok.1 (State.pendingRequest_eq_some.1 hpending)
  have hfunction : byteAt s.frame 1 = s.rxbuf.read 1 := s.byteAt_frame 1 (by simp at h8; omega)
  have hreq := ha.requestHeld_of_processing hp
  unfold requestOf at hexec
  split at hexec
  · next h3 =>
    obtain ⟨-, -, rfl⟩ := inProcessing_eq_next.1 hexec
    exact fc03Step_addressHeld hl hs.txWf ha hp (hfunction ▸ h3)
  · next h3 =>
    split at hexec
    · obtain ⟨-, -, rfl⟩ := inProcessing_eq_next.1 hexec
      exact fc06Step_addressHeld hs.txWf hreq _ _
    · obtain ⟨-, -, rfl⟩ := inProcessing_eq_next.1 hexec
      exact fc16Step_addressHeld hs.txWf hreq hp (hfunction ▸ h3)

/-! ### The step -/

/-- What is selected, but for PROCESS and POWER_ON, is spelled by the word of the next turn (R10, R70). -/
theorem select_run_word {i : Instr} {u : State} (h : select s = .run i u) (hprocess : i ≠ .process)
    (hpower : i ≠ .powerOn) :
    ∃ turn rest w, s.input = turn :: rest ∧ turn.word = some w ∧ decodeEvent w = .ok i := by
  unfold select at h
  split at h
  · obtain ⟨rest, -, hm⟩ | hm | ⟨w, rest, j, hin, hd, -, hm⟩ | ⟨w, rest, r, -, -, hm⟩ := selectMid_cases s <;>
      rw [hm] at h <;> cases h
    · exact absurd rfl hprocess
    · exact absurd rfl hprocess
    · exact ⟨_, rest, w, hin, rfl, hd⟩
  · unfold dispatcherTurn at h
    split at h
    · split at h <;> cases h
      exact absurd rfl hprocess
    · split at h <;> cases h
      exact absurd rfl hprocess
    · cases h
      exact absurd rfl hpower
    · next w rest hin => exact ⟨_, rest, w, hin, rfl, eventTurn_eq_run h⟩
    · next w rest hin => exact ⟨_, rest, w, hin, rfl, eventTurn_eq_run h⟩

/-- Every instruction that can be selected keeps the address, SET_ADDR where QUIET is 1 (R238). -/
theorem State.addressHeld.exec {i : Instr} (ha : s.addressHeld) (hs : s.Inv) (hi : Instr.wordRange i = none)
    (hduty : ∀ a, i = .setAddr a → s.quiet = true) (h : exec i s = .next t) : t.addressHeld := by
  cases i with
  | rxByte b => exact ha.exec_rxByte hs h
  | tick => exact ha.exec_tick h
  | txReady => obtain ⟨-, ⟨-, -, rfl⟩ | ⟨-, rfl⟩⟩ := exec_txReady_cases h <;> exact ha
  | txComplete =>
    obtain ⟨-, ⟨-, -, rfl⟩ | ⟨-, rfl⟩⟩ := exec_txComplete_cases h
    · exact State.frameReset_addressHeld s
    · exact ha
  | reset =>
    obtain ⟨-, rfl⟩ := exec_reset_eq_next.1 h
    exact State.frameReset_addressHeld s
  | setAddr a =>
    obtain ⟨-, rfl⟩ := exec_setAddr_eq_next.1 h
    obtain ⟨hst, -⟩ := s.quiet_iff.1 (hduty a rfl)
    exact State.addressHeld_of_unanswered (.inl hst) (hs.wordsDone_of_ne (by simp [hst]))
  | loopRead k =>
    obtain ⟨-, -, rfl⟩ := exec_loopRead_eq_next.1 h
    exact ha
  | loopWrite k v =>
    obtain ⟨-, -, rfl⟩ := exec_loopWrite_eq_next.1 h
    exact ha
  | fc03 addr start count => cases hi
  | fc06 addr address value =>
    obtain ⟨-, hp, rfl⟩ := inProcessing_eq_next.1 h
    exact fc06Step_addressHeld hs.txWf (ha.requestHeld_of_processing hp) address value
  | fc16 addr start count byteCount words => cases hi
  | powerOn =>
    obtain ⟨-, rfl⟩ := exec_powerOn_eq_next.1 h
    exact State.frameReset_addressHeld _
  | process => exact ha.exec_process hs h

end Sys2Proof.Machine
end

section
/-! PROOFS. The function dispatcher: what PROCESS does with the frame, the three requests in and out of range, and the address
throughout a transaction (42_dispatcher.md R140 to R160). -/

namespace Sys2Proof.Proofs.Dispatcher

open Sys2Proof.Machine

/-- Settles O33, request by request: each branch out of range is the exception response. -/
theorem outOfRangeGetsExceptionTwo : Obligations.OutOfRangeGetsExceptionTwo := by
  intro s hl hp hw
  refine ⟨fun a start count h => ⟨_, inProcessing_of_legal hl hp _, ?_⟩,
    fun a address value h => ⟨_, inProcessing_of_legal hl hp _, ?_⟩,
    fun a start count byteCount words h => ⟨_, inProcessing_of_legal hl hp _, ?_⟩⟩
  · rw [fc03Step_of_gt h]
    exact ⟨State.exception_answeredFrom hw 0x03 2, rfl⟩
  · rw [fc06Step_of_ge h]
    exact ⟨State.exception_answeredFrom hw 0x06 2, rfl⟩
  · rw [fc16Step_of_gt h]
    exact ⟨State.exception_answeredFrom hw 0x10 2, rfl⟩

/-- Settles O34: the run ends in one response whose payload is the header and the registers in order. -/
theorem fc03AnswersTheRegisters : Obligations.Fc03AnswersTheRegisters := by
  intro s a start count hl hp hw hd h
  have hlen : (fc03Bytes start count count.toNat s).length = 3 + 2 * count.toNat :=
    length_fc03Bytes (hl.regs_length.symm ▸ h)
  have hn := hl.n_le
  exact ⟨_, State.Ready.execTimes_fc03 ⟨hl, hp, h⟩ hd a, State.respond_answeredFrom hw (by unfold cap; omega), rfl⟩

/-- Settles O36: one register written, then the echo, which leaves the register map as it is. -/
theorem fc06WritesAndEchoes : Obligations.Fc06WritesAndEchoes := by
  intro s a address value hl hp hw h
  refine ⟨_, inProcessing_of_legal hl hp _, ?_⟩
  rw [fc06Step_of_lt h]
  exact ⟨State.setReg_registerWritten (hl.regs_length ▸ h) value,
    State.respond_answeredFrom (s := s.setReg address.toNat value) hw (by simp [cap])⟩

/-- Settles O37: the received frame is the request's encoding, and that is what the echo writes. -/
theorem fc06EchoEqualsTheRequest : Obligations.Fc06EchoEqualsTheRequest := by
  rintro s a address value hl hp hw hcheck hreq rfl h
  have hdecode := State.pendingRequest_eq_some.1 hreq
  rw [hcheck] at hdecode
  obtain ⟨t, hexec, -, hbytes, -, hlen, -⟩ := fc06WritesAndEchoes s s.devaddr address value hl hp hw h
  refine ⟨t, (exec_process_of_pending hl hp hreq).trans hexec, BitVec.eq_of_toNat_eq hlen, ?_⟩
  rw [frame_of_decodeFrame_fc06 hdecode, hlen, hbytes]

/-- Settles O39: the run writes the payload words, and then the echo leaves the register map as it is. -/
theorem fc16WritesAndEchoes : Obligations.Fc16WritesAndEchoes := by
  intro s a start count byteCount words hl hp hw hd h hlen
  refine ⟨_, State.Ready.execTimes_fc16 ⟨hl, hp, h⟩ hd a byteCount words,
    fc16Words_getElem? hlen.ge (hl.regs_length.symm ▸ h), ?_⟩
  rw [fc16Words_eq]
  exact fc16Finish_answeredFrom hw start count

/-- Settles O58: SET_ADDR is only selected out of the next turn, where the duty speaks of it; everything else keeps the
address. -/
theorem addressDutyKeepsTheAddress : Obligations.AddressDutyKeepsTheAddress := by
  intro s t hs ha hduty h
  obtain ⟨i, u, hsel, hexec⟩ | ⟨hsel, -⟩ := step_cases h
  · have hquiet (a : Byte) (hi : i = .setAddr a) : s.quiet = true := by
      subst hi
      obtain ⟨turn, rest, w, hin, hword, hd⟩ := select_run_word hsel Instr.noConfusion Instr.noConfusion
      exact hduty turn rest w a hin hword hd
    obtain ⟨rest, rfl⟩ := select_state.1 i u hsel
    exact State.addressHeld.exec (s := { s with input := rest }) ha (hs.withInput rest) (select_wordRange hsel) hquiet hexec
  · obtain ⟨rest, rfl⟩ := select_state.2 t hsel
    exact ha

/-- Settles O41: the CRC is looked at first, and a bad one ends in the frame reset. -/
theorem processDiscardsOnCrcMismatch : Obligations.ProcessDiscardsOnCrcMismatch := fun s hl hp h8 hcrc =>
  ⟨_, exec_process_of_badCrc hl hp (decodeFrame_eq_badCrc.2 ⟨s.length_frame ▸ h8, hcrc⟩), s.frameReset_isFrameResetOf⟩

/-- Settles O42: what a frame decodes to is a request, and in Processing every request answers. -/
theorem processRunsTheRequest : Obligations.ProcessRunsTheRequest := by
  intro s i hl hp hd
  have hrun := exec_process_of_pending hl hp (State.pendingRequest_eq_some.2 hd)
  obtain ⟨-, -, -, rfl⟩ := decodeFrame_eq_ok.1 hd
  exact ⟨hrun, hrun ▸ exec_requestOf_answers hl hp s.frame⟩

/-- Settles O43: outside Processing by the guard; in it, by the function code of a frame whose CRC is good. -/
theorem processRefusals : Obligations.ProcessRefusals := by
  refine fun s hl => ⟨exec_process_of_ne hl, fun hp h8 hcrc h3 h6 h16 => exec_process_of_unknownFunction hl hp ?_⟩
  refine decodeFrame_of_unknownFunction (s.length_frame ▸ h8) hcrc ?_
  rw [s.byteAt_frame 1 (by omega)]
  exact not_or.2 ⟨h3, not_or.2 ⟨h6, h16⟩⟩

/-- Settles O45: each of these turns selects PROCESS, and PROCESS is the request. -/
theorem stepRunsThePendingRequest : Obligations.StepRunsThePendingRequest := by
  intro s i hl hp hreq
  have hrun (h : select s = .run .process s) : step s = exec i s :=
    (step_of_run h).trans (exec_process_of_pending hl hp hreq)
  refine ⟨fun rest hin => ?_, fun hin => hrun (select_nil_of_processing hp hin), fun hm =>
    ⟨fun w rest hin => hrun (select_event_of_mid hm hin), fun rest hin => hrun (select_powerOn_of_mid hm hin),
      fun w rest e hin hd hread hwrite =>
        hrun (select_between_of_not_loopPort hm hin hd (isLoopPort_eq_false hread hwrite))⟩⟩
  exact (step_of_run (select_dispatcher_of_processing hp hin)).trans
    (exec_process_of_pending (s := { s with input := rest }) hl hp hreq)

end Sys2Proof.Proofs.Dispatcher
end

section
/-! SUPPORT. The watchdog: what a TICK does by the timer, what an expiry does by STATE, and many ticks one after the other
(R175 to R180). -/

namespace Sys2Proof.Machine

variable {s : State}

/-! ### One tick -/

theorem exec_tick_of_disarmed (hl : s.Legal) (hen : s.tmrEn = false) : exec .tick s = .next s := by
  simp [exec, execTick, hl, hen]

/-- An armed timer below its target only counts (R175). -/
theorem exec_tick_of_lt (hl : s.Legal) (hen : s.tmrEn = true) (hlt : s.tmrCount.toNat + 1 < s.tmrTarget.toNat) :
    exec .tick s = .next s.timerCount := by
  have hx : s.tickExpires = false := decide_eq_false (Nat.not_le.2 hlt)
  simp [exec, execTick, hl, hen, hx]

/-- An armed timer that reaches its target counts and expires (R175). -/
theorem exec_tick_of_le (hl : s.Legal) (hen : s.tmrEn = true) (hle : s.tmrTarget.toNat ≤ s.tmrCount.toNat + 1) :
    exec .tick s = s.timerCount.expire := by
  have hx : s.tickExpires = true := decide_eq_true hle
  simp [exec, execTick, hl, hen, hx]

/-! ### The expiry, by STATE -/

theorem State.expire_of_receive (h : s.state = .idle ∨ s.state = .receiving ∨ s.state = .ignoring) :
    s.expire = .next s.frameReset := by
  obtain h | h | h := h <;> simp [State.expire, h]

theorem State.expire_of_starting (h : s.state = .startingTransmission) : s.expire = .next s.beginTx := by
  simp [State.expire, h]

theorem State.expire_of_busy (h : s.state = .processing ∨ s.state = .transmitting) : s.expire = .next s.timerDisarm := by
  obtain h | h := h <;> simp [State.expire, h]

/-! ### Many ticks -/

/-- One time more, after n times that answered. -/
theorem execTimes_succ_of_next {i : Instr} {n : Nat} {u : State} (h : execTimes i n s = .next u) :
    execTimes i (n + 1) s = exec i u := by
  induction n generalizing s with
  | zero =>
    obtain rfl : s = u := Host.Outcome.next.inj h
    rw [execTimes]
    cases exec i s <;> rfl
  | succ n ih =>
    rw [execTimes] at h ⊢
    cases hexec : exec i s with
    | next t => rw [hexec] at h; exact ih h
    | fault f => rw [hexec] at h; cases h
    | refused r => rw [hexec] at h; cases h

/-- The state n counts of the timer later. -/
def State.ticked (n : Nat) (s : State) : State := { s with tmrCount := s.tmrCount + BitVec.ofNat 16 n }

theorem State.ticked_zero (s : State) : s.ticked 0 = s := by simp [State.ticked]

theorem State.timerCount_ticked (n : Nat) (s : State) : (s.ticked n).timerCount = s.ticked (n + 1) := by
  simp [State.ticked, State.timerCount, BitVec.ofNat_add, BitVec.add_assoc]

/-- Below the target TMR_COUNT does not wrap (R31). -/
theorem State.ticked_tmrCount_toNat {n : Nat} (h : s.tmrCount.toNat + n < s.tmrTarget.toNat) :
    (s.ticked n).tmrCount.toNat = s.tmrCount.toNat + n := by
  have hlt := s.tmrTarget.isLt
  rw [State.ticked, BitVec.toNat_add, BitVec.toNat_ofNat, Nat.add_mod_mod]
  exact Nat.mod_eq_of_lt (by omega)

/-- Ticks that do not reach the target only count (R175). -/
theorem execTimes_tick_of_lt {n : Nat} (hl : s.Legal) (hen : s.tmrEn = true)
    (h : s.tmrCount.toNat + n < s.tmrTarget.toNat) : execTimes .tick n s = .next (s.ticked n) := by
  induction n with
  | zero => rw [State.ticked_zero, execTimes]
  | succ n ih =>
    have hn : s.tmrCount.toNat + n < s.tmrTarget.toNat := by omega
    have hnext : (s.ticked n).tmrCount.toNat + 1 < s.tmrTarget.toNat := by
      rw [State.ticked_tmrCount_toNat hn]
      exact h
    rw [execTimes_succ_of_next (ih hn), exec_tick_of_lt (s := s.ticked n) hl hen hnext, State.timerCount_ticked]

/-- The tick that reaches the target is the TMR_TARGET - TMR_COUNT-th, and then the timer expires (R175). -/
theorem execTimes_tick_expires (hl : s.Legal) (hen : s.tmrEn = true) (h : s.tmrCount.toNat < s.tmrTarget.toNat) :
    execTimes .tick (s.tmrTarget.toNat - s.tmrCount.toNat) s =
      (s.ticked (s.tmrTarget.toNat - s.tmrCount.toNat)).expire := by
  obtain ⟨m, hm⟩ : ∃ m, s.tmrTarget.toNat - s.tmrCount.toNat = m + 1 := Nat.exists_eq_add_one.2 (by omega)
  have hlt : s.tmrCount.toNat + m < s.tmrTarget.toNat := by omega
  have hreach : s.tmrTarget.toNat ≤ (s.ticked m).tmrCount.toNat + 1 := by
    rw [State.ticked_tmrCount_toNat hlt]
    omega
  rw [hm, execTimes_succ_of_next (execTimes_tick_of_lt hl hen hlt), exec_tick_of_le (s := s.ticked m) hl hen hreach,
    State.timerCount_ticked]

end Sys2Proof.Machine
end

section
/-! SUPPORT. Who writes LINE_TX: a frame reset, and the end of the turnaround (R171). -/

namespace Sys2Proof.Machine

variable {s t : State}

theorem exec_rxByte_lineTx {b : Byte} (h : exec (.rxByte b) s = .next t) : t.lineTx = s.lineTx := by
  obtain ⟨-, ⟨-, rfl⟩ | ⟨-, rfl⟩ | ⟨-, rfl⟩ | ⟨-, rfl⟩⟩ := exec_rxByte_cases h
  · exact (congrArg State.lineTx (rxIdle_stores b s) :)
  · exact (congrArg State.lineTx (rxReceiving_eq b s) :)
  · exact s.storeRx_lineTx b
  · rfl

theorem exec_fc03_lineTx {addr : Byte} {start count : Word} (h : exec (.fc03 addr start count) s = .next t) :
    t.lineTx = s.lineTx := by
  obtain ⟨-, -, rfl⟩ := inProcessing_eq_next.1 h
  rw [fc03Step_eq]
  split
  · rw [moveWord_keeps State.lineTx _ (fc03Word start) (fc03Finish count) _ (fun _ _ => rfl) (fun _ _ => rfl)
      (fun _ => rfl)]
    exact (congrArg State.lineTx (fc03Begin_eq count s) :)
  · rfl

theorem exec_fc06_lineTx {addr : Byte} {address value : Word} (h : exec (.fc06 addr address value) s = .next t) :
    t.lineTx = s.lineTx := by
  obtain ⟨-, -, rfl⟩ := inProcessing_eq_next.1 h
  unfold fc06Step
  split <;> rfl

theorem exec_fc16_lineTx {addr byteCount : Byte} {start count : Word} {words : List Word}
    (h : exec (.fc16 addr start count byteCount words) s = .next t) : t.lineTx = s.lineTx := by
  obtain ⟨-, -, rfl⟩ := inProcessing_eq_next.1 h
  unfold fc16Step
  split
  · exact moveWord_keeps State.lineTx _ _ _ _ (fun _ _ => rfl) (fun _ _ => rfl) (fun _ => rfl)
  · rfl

theorem exec_requestOf_lineTx {frame : List Byte} (h : exec (requestOf frame) s = .next t) : t.lineTx = s.lineTx := by
  unfold requestOf at h
  split at h
  · exact exec_fc03_lineTx h
  · split at h
    · exact exec_fc06_lineTx h
    · exact exec_fc16_lineTx h

/-- What an instruction can do to LINE_TX: leave it as it is, end in a frame reset, or be the tick that ends the
turnaround (R171). -/
theorem exec_lineTx_cases {i : Instr} (h : exec i s = .next t) :
    t.lineTx = s.lineTx ∨ (∃ u : State, t = u.frameReset) ∨
      (i = .tick ∧ s.state = .startingTransmission ∧ t = s.timerCount.beginTx) := by
  cases i with
  | rxByte b => exact .inl (exec_rxByte_lineTx h)
  | tick =>
    obtain ⟨-, ⟨-, rfl⟩ | ⟨-, -, rfl⟩ | ⟨-, -, hexp⟩⟩ := exec_tick_cases h
    · exact .inl rfl
    · exact .inl rfl
    · obtain ⟨-, rfl⟩ | ⟨hstart, rfl⟩ | ⟨-, rfl⟩ := State.expire_cases _ _ hexp
      · exact .inr (.inl ⟨_, rfl⟩)
      · exact .inr (.inr ⟨rfl, hstart, rfl⟩)
      · exact .inl rfl
  | txReady => obtain ⟨-, ⟨-, -, rfl⟩ | ⟨-, rfl⟩⟩ := exec_txReady_cases h <;> exact .inl rfl
  | txComplete =>
    obtain ⟨-, ⟨-, -, rfl⟩ | ⟨-, rfl⟩⟩ := exec_txComplete_cases h
    · exact .inr (.inl ⟨s, rfl⟩)
    · exact .inl rfl
  | reset =>
    obtain ⟨-, rfl⟩ := exec_reset_eq_next.1 h
    exact .inr (.inl ⟨s, rfl⟩)
  | setAddr a =>
    obtain ⟨-, rfl⟩ := exec_setAddr_eq_next.1 h
    exact .inl rfl
  | loopRead k =>
    obtain ⟨-, -, rfl⟩ := exec_loopRead_eq_next.1 h
    exact .inl rfl
  | loopWrite k v =>
    obtain ⟨-, -, rfl⟩ := exec_loopWrite_eq_next.1 h
    exact .inl rfl
  | fc03 addr start count => exact .inl (exec_fc03_lineTx h)
  | fc06 addr address value => exact .inl (exec_fc06_lineTx h)
  | fc16 addr start count byteCount words => exact .inl (exec_fc16_lineTx h)
  | powerOn =>
    obtain ⟨-, rfl⟩ := exec_powerOn_eq_next.1 h
    exact .inr (.inl ⟨_, rfl⟩)
  | process =>
    obtain ⟨-, -, ⟨-, -, rfl⟩ | ⟨-, hreq⟩⟩ := exec_process_cases h
    · exact .inr (.inl ⟨s, rfl⟩)
    · exact .inl (exec_requestOf_lineTx hreq)

end Sys2Proof.Machine
end

section
/-! PROOFS. The line direction and the frame-timeout watchdog: a tick by the timer, an expiry by STATE, how many ticks end a
frame or the turnaround, and who drives and releases the line (43_line_and_watchdog.md R170 to R180). -/

namespace Sys2Proof.Proofs.Watchdog

open Sys2Proof.Machine

/-- Settles O23: ticks below the target only count, and the one that reaches it is an expiry on the receive side. -/
theorem silenceEndsTheFrame : Obligations.SilenceEndsTheFrame := by
  intro s hs hrx hen
  refine ⟨fun n hn => execTimes_tick_of_lt hs.legal hen (by omega), s.frameReset, ?_, s.frameReset_isFrameResetOf⟩
  rw [execTimes_tick_expires hs.legal hen (hs.armed hen), State.expire_of_receive (s := s.ticked _) hrx]
  rfl

/-- Settles O24: the invariant has the timer armed and the line in receive, ticks below the target only count, and the one
that reaches it begins the transmission. -/
theorem turnaroundEndsInTransmission : Obligations.TurnaroundEndsInTransmission := by
  intro s hs hstart
  have hrow := hs.row
  simp only [State.rowHolds, hstart] at hrow
  obtain ⟨-, -, -, hen, -⟩ := hrow
  refine ⟨fun n hn => ⟨s.ticked n, execTimes_tick_of_lt hs.legal hen (by omega), hs.lineTx_of_ne (by simp [hstart]), rfl⟩,
    (s.ticked (s.tmrTarget.toNat - s.tmrCount.toNat)).beginTx, ?_, rfl, rfl, rfl, rfl, rfl⟩
  rw [execTimes_tick_expires hs.legal hen (hs.armed hen), State.expire_of_starting (s := s.ticked _) hstart]

/-- Settles O54: nothing but a frame reset and the end of the turnaround writes LINE_TX. -/
theorem lineDirectionDiscipline : Obligations.LineDirectionDiscipline := by
  intro i s t h
  obtain hsame | ⟨u, rfl⟩ | ⟨hi, hstart, rfl⟩ := exec_lineTx_cases h
  · rw [hsame]
    exact ⟨fun hoff hon => by simp [hoff] at hon, fun hon hoff => by simp [hon] at hoff⟩
  · exact ⟨fun _ hon => by simp at hon, fun _ _ => ⟨rfl, rfl, rfl, rfl⟩⟩
  · exact ⟨fun _ _ => ⟨hi, hstart, rfl, rfl⟩, fun _ hoff => by simp [State.beginTx_eq] at hoff⟩

/-- Settles O19, by whether the timer is armed. -/
theorem tickCounts : Obligations.TickCounts := fun _ hl => ⟨exec_tick_of_disarmed hl, exec_tick_of_lt hl⟩

/-- Settles O20: the frame reset clears the count, so it is the same as without the last count. -/
theorem expiryDiscardsTheFrame : Obligations.ExpiryDiscardsTheFrame := fun s hl hrx hen hle =>
  ⟨s.frameReset, (exec_tick_of_le hl hen hle).trans (State.expire_of_receive (s := s.timerCount) hrx),
    s.frameReset_isFrameResetOf⟩

/-- Settles O21: the expiry that ends the turnaround is begin_tx. -/
theorem expiryStartsTransmission : Obligations.ExpiryStartsTransmission := by
  intro s hl hstart hen hle
  rw [exec_tick_of_le hl hen hle, State.expire_of_starting (s := s.timerCount) hstart, State.beginTx_eq]
  rfl

/-- Settles O22: the expiry while a frame is processed or answered disarms the timer. -/
theorem expiryElsewhereDisarms : Obligations.ExpiryElsewhereDisarms := fun s hl hbusy hen hle =>
  (exec_tick_of_le hl hen hle).trans (State.expire_of_busy (s := s.timerCount) hbusy)

end Sys2Proof.Proofs.Watchdog
end

section
/-! SUPPORT. The first byte of a frame, and the last one (R112, R117). -/

namespace Sys2Proof.Machine

variable {s : State}

/-- The first byte of a frame: no inspection yet, and the timer armed (R112). -/
theorem rxIdle_first (h0 : s.rxcur = 0) (b : Byte) :
    (rxIdle b s).state = s.state ∧ (rxIdle b s).rxcur = 1 ∧ (rxIdle b s).tmrEn = true ∧ (rxIdle b s).tmrCount = 0 ∧
      (rxIdle b s).tmrTarget = s.params.tFrame := by
  have hbytes := inspectAt_bounds s.params.inspectAt
  have hcur : (s.storeRx b).rxcur = 1 := by
    apply BitVec.eq_of_toNat_eq
    rw [State.storeRx_rxcur_toNat, h0]
    rfl
  have hnot : ¬ (storeIdle b s).rxcur.toNat = s.params.inspectAt.bytes := by
    rw [storeIdle_rxcur, hcur, show (1 : Byte).toNat = 1 from rfl]
    omega
  rw [rxIdle_eq, if_neg hnot, storeIdle_eq]
  exact ⟨rfl, hcur, if_pos h0, rfl, if_pos h0⟩

/-- The last byte of a frame: it is complete, and the timer is disarmed (R117). -/
theorem rxReceiving_last (hcap : s.rxcur.toNat < cap) (hlast : s.rxcur.toNat + 1 = s.explen.toNat) (b : Byte) :
    (rxReceiving b s).state = .processing ∧ (rxReceiving b s).tmrEn = false := by
  have hfull : (s.storeRx b).rxcur.toNat = s.explen.toNat := by
    rw [State.storeRx_rxcur_toNat, if_pos hcap, hlast]
  rw [rxReceiving_eq]
  exact ⟨if_pos hfull, if_pos hfull⟩

end Sys2Proof.Machine
end

section
/-! SUPPORT. Which instructions answer in a state that meets the invariant, and what a step selects that does not: every
event but an access of the control port to no register, POWER_ON, and PROCESS where it is enabled (R67, R71, R140, R200). -/

namespace Sys2Proof.Machine

variable {s : State}

/-! ### The events -/

theorem exec_rxByte_answers (hl : s.Legal) (b : Byte) : ∃ t, exec (.rxByte b) s = .next t := by
  have hr := hl.not_reserved
  cases hst : s.state with
  | idle => exact ⟨_, exec_rxByte_of_idle hl hst b⟩
  | receiving => exact ⟨_, exec_rxByte_of_receiving hl hst b⟩
  | ignoring => exact ⟨_, exec_rxByte_of_ignoring hl hst b⟩
  | processing | startingTransmission | transmitting =>
    exact ⟨_, Proofs.Framer.rxByteLostWhileBusy s b hl (by simp [hst])⟩
  | reserved6 | reserved7 => rw [hst] at hr; cases hr

theorem State.expire_answers (hr : s.state.isReserved = false) : ∃ t, s.expire = .next t := by
  cases hst : s.state with
  | idle | receiving | ignoring => exact ⟨_, State.expire_of_receive (by simp [hst])⟩
  | startingTransmission => exact ⟨_, State.expire_of_starting hst⟩
  | processing | transmitting => exact ⟨_, State.expire_of_busy (by simp [hst])⟩
  | reserved6 | reserved7 => rw [hst] at hr; cases hr

theorem exec_tick_answers (hl : s.Legal) : ∃ t, exec .tick s = .next t := by
  cases hen : s.tmrEn with
  | false => exact ⟨_, exec_tick_of_disarmed hl hen⟩
  | true =>
    obtain hlt | hle := Nat.lt_or_ge (s.tmrCount.toNat + 1) s.tmrTarget.toNat
    · exact ⟨_, exec_tick_of_lt hl hen hlt⟩
    · rw [exec_tick_of_le hl hen hle]
      exact State.expire_answers (s := s.timerCount) hl.not_reserved

/-- An access of the control port whose index names no register, and the refusal that it meets (R67). -/
def State.NoSuchRegister (s : State) (i : Instr) : Prop :=
  ∃ k : LoopIndex, s.n ≤ k.toNat ∧ (i = .loopRead k ∨ ∃ v, i = .loopWrite k v) ∧ exec i s = .refused .loopIndex

/-- What a word spells answers in every legal state, but for an access of the control port to no register (R10, R67). -/
theorem exec_event_answers {w : EventWord} {i : Instr} (hl : s.Legal) (hd : decodeEvent w = .ok i) :
    (∃ t, exec i s = .next t) ∨ s.NoSuchRegister i := by
  cases i with
  | rxByte b => exact .inl (exec_rxByte_answers hl b)
  | tick => exact .inl (exec_tick_answers hl)
  | txReady => exact .inl ⟨_, Proofs.Framer.txReadyEmitsNextByte s hl⟩
  | txComplete =>
    obtain ⟨t, hexec, -⟩ := Proofs.Framer.txCompleteReleasesTheLine s hl
    exact .inl ⟨t, hexec⟩
  | reset => exact .inl ⟨_, exec_reset_eq_next.2 ⟨hl, rfl⟩⟩
  | setAddr a => exact .inl ⟨_, exec_setAddr_eq_next.2 ⟨hl, rfl⟩⟩
  | loopRead k =>
    obtain hk | hk := Nat.lt_or_ge k.toNat s.n
    · exact .inl ⟨_, exec_loopRead_eq_next.2 ⟨hl, hk, rfl⟩⟩
    · exact .inr ⟨k, hk, .inl rfl, exec_loopRead_of_ge hl hk⟩
  | loopWrite k v =>
    obtain hk | hk := Nat.lt_or_ge k.toNat s.n
    · exact .inl ⟨_, exec_loopWrite_eq_next.2 ⟨hl, hk, rfl⟩⟩
    · exact .inr ⟨k, hk, .inr ⟨v, rfl⟩, exec_loopWrite_of_ge hl hk v⟩
  | fc03 | fc06 | fc16 | powerOn | process => exact nomatch encodeEvent_of_decodeEvent hd

/-! ### PROCESS -/

/-- The frame in Processing is complete, so it is discarded for its CRC or it decodes to a request (R37, R140, R141). -/
theorem State.Inv.decodeFrame_cases (hs : s.Inv) (hp : s.state = .processing) :
    decodeFrame s.params.crcCheck s.params.fc16Base s.frame = .error .badCrc ∨
      s.pendingRequest = some (requestOf s.frame) := by
  have hrow := hs.row
  simp only [State.rowHolds, hp] at hrow
  obtain ⟨⟨hlen, hcur⟩, -⟩ := hrow
  have h8 : 8 ≤ s.rxcur.toNat := hcur ▸ (expectedLength_bounds hlen).1
  rw [State.requestLength_eq_frame (by omega), ← hcur, ← s.length_frame] at hlen
  rw [← s.length_frame] at h8
  cases hcrc : crcOk s.params.crcCheck s.frame with
  | false => exact .inl (decodeFrame_eq_badCrc.2 ⟨h8, hcrc⟩)
  | true => exact .inr (State.pendingRequest_eq_some.2 (decodeFrame_eq_ok.2 ⟨h8, hcrc, hlen, rfl⟩))

theorem exec_process_answers (hs : s.Inv) (hp : s.state = .processing) : ∃ t, exec .process s = .next t := by
  obtain hcrc | hreq := hs.decodeFrame_cases hp
  · exact ⟨_, exec_process_of_badCrc hs.legal hp hcrc⟩
  · rw [exec_process_of_pending hs.legal hp hreq]
    exact exec_requestOf_answers hs.legal hp s.frame

/-! ### What is selected -/

/-- No word spells PROCESS (R93). -/
theorem eventTurn_ne_process (w : EventWord) (s u : State) : eventTurn w s ≠ .run .process u := fun h =>
  nomatch encodeEvent_of_decodeEvent (eventTurn_eq_run h)

/-- PROCESS is selected only where it is enabled (R58, R140). -/
theorem select_process_state {u : State} (h : select s = .run .process u) : s.state = .processing := by
  unfold select at h
  split at h
  · next hm =>
    by_contra hp
    exact absurd hm (by simp [State.midProcess_of_ne hp])
  · unfold dispatcherTurn at h
    split at h
    · split at h <;> cases h
      assumption
    · split at h <;> cases h
      assumption
    · cases h
    · exact absurd h (eventTurn_ne_process _ _ u)
    · exact absurd h (eventTurn_ne_process _ _ u)

theorem eventTurn_eq_badEvent {w : EventWord} (h : eventTurn w s = .badEvent) : ∃ r, decodeEvent w = .error r := by
  unfold eventTurn at h
  split at h <;> cases h
  exact ⟨_, by assumption⟩

/-- No event is selected only where the next turn carries a word that spells none (R58, R71). -/
theorem select_badEvent_word (h : select s = .badEvent) :
    ∃ turn rest w r, s.input = turn :: rest ∧ turn.word = some w ∧ decodeEvent w = .error r := by
  unfold select at h
  split at h
  · obtain ⟨rest, -, hm⟩ | hm | ⟨w, rest, j, -, -, -, hm⟩ | ⟨w, rest, r, hin, hd, -⟩ := selectMid_cases s
    · exact nomatch hm.symm.trans h
    · exact nomatch hm.symm.trans h
    · exact nomatch hm.symm.trans h
    · exact ⟨_, rest, w, r, hin, rfl, hd⟩
  · unfold dispatcherTurn at h
    split at h
    · split at h <;> cases h
    · split at h <;> cases h
    · cases h
    · next w rest hin =>
      obtain ⟨r, hd⟩ := eventTurn_eq_badEvent h
      exact ⟨_, rest, w, r, hin, rfl, hd⟩
    · next w rest hin =>
      obtain ⟨r, hd⟩ := eventTurn_eq_badEvent h
      exact ⟨_, rest, w, r, hin, rfl, hd⟩

end Sys2Proof.Machine
end

section
/-! SUPPORT. The response while it goes out: what each instruction does to it, and the transport beside it (R120, R121, R178,
R217). -/

namespace Sys2Proof.Machine

variable {s t : State}

/-! ### The block in Transmitting -/

/-- The response that goes out stands where it stood: no byte of it is handed over, and the line is not released. -/
structure State.ResponseStands (s t : State) : Prop where
  state : t.state = s.state
  lineTx : t.lineTx = s.lineTx
  txcur : t.txcur = s.txcur
  txlen : t.txlen = s.txlen
  silent : emittedBy s t = []

/-- Where TX_READY finds no byte left in Transmitting, all of them have been handed over (R37, R120). -/
theorem State.Inv.txcur_eq_txlen (hs : s.Inv) (htx : s.state = .transmitting) (h : ¬ s.txcur.toNat < s.txlen.toNat) :
    s.txcur = s.txlen := by
  have hrow := hs.row
  simp only [State.rowHolds, htx] at hrow
  obtain ⟨-, -, hle, -⟩ := hrow
  exact BitVec.eq_of_toNat_eq (Nat.le_antisymm hle (Nat.not_lt.1 h))

/-- What an instruction can do to a response that goes out: hand over its next byte; come after the last byte, or before it,
and do nothing; end the transaction; or, being neither TX_READY nor TX_COMPLETE, leave the response where it stands (R119 to
R121, R140, R175). -/
theorem exec_transmitting_cases {i : Instr} (hs : s.Inv) (htx : s.state = .transmitting) (h : exec i s = .next t) :
    (i ≠ .txReady ∧ i ≠ .txComplete ∧ s.ResponseStands t) ∨
    (i = .txReady ∧ t = s.sendNext) ∨
    (i = .txReady ∧ s.txcur = s.txlen ∧ t = s) ∨
    (i = .txComplete ∧ s.txcur ≠ s.txlen) ∨
    ((i = .txComplete ∨ i = .reset ∨ i = .powerOn) ∧ t.state = .idle) := by
  have hne : s.state ≠ .processing := by simp [htx]
  cases i with
  | rxByte b =>
    rw [Proofs.Framer.rxByteLostWhileBusy s b hs.legal (.inr (.inr htx))] at h
    cases h
    exact .inl ⟨nofun, nofun, rfl, rfl, rfl, rfl, emittedBy_of_outputs_eq rfl⟩
  | tick =>
    rw [exec_tick_of_disarmed hs.legal (hs.tmrEn_of_busy (.inr htx))] at h
    cases h
    exact .inl ⟨nofun, nofun, rfl, rfl, rfl, rfl, emittedBy_of_outputs_eq rfl⟩
  | setAddr a =>
    obtain ⟨-, rfl⟩ := exec_setAddr_eq_next.1 h
    exact .inl ⟨nofun, nofun, rfl, rfl, rfl, rfl, emittedBy_of_outputs_eq rfl⟩
  | loopRead k =>
    obtain ⟨-, -, rfl⟩ := exec_loopRead_eq_next.1 h
    exact .inl ⟨nofun, nofun, rfl, rfl, rfl, rfl, emittedBy_of_outputs_append (s := s) (o := .loopValue _) rfl⟩
  | loopWrite k v =>
    obtain ⟨-, -, rfl⟩ := exec_loopWrite_eq_next.1 h
    exact .inl ⟨nofun, nofun, rfl, rfl, rfl, rfl, emittedBy_of_outputs_eq rfl⟩
  | fc03 | fc06 | fc16 =>
    obtain ⟨-, hp, -⟩ := inProcessing_eq_next.1 h
    exact absurd hp hne
  | process =>
    obtain ⟨-, hp, -⟩ := exec_process_cases h
    exact absurd hp hne
  | txReady =>
    obtain ⟨-, ⟨-, -, rfl⟩ | ⟨hnone, rfl⟩⟩ := exec_txReady_cases h
    · exact .inr (.inl ⟨rfl, rfl⟩)
    · exact .inr (.inr (.inl ⟨rfl, hs.txcur_eq_txlen htx fun hlt => hnone ⟨htx, hlt⟩, rfl⟩))
  | txComplete =>
    obtain ⟨-, ⟨-, -, rfl⟩ | ⟨hearly, -⟩⟩ := exec_txComplete_cases h
    · exact .inr (.inr (.inr (.inr ⟨.inl rfl, rfl⟩)))
    · exact .inr (.inr (.inr (.inl ⟨rfl, fun hcur => hearly ⟨htx, hcur⟩⟩)))
  | reset =>
    obtain ⟨-, rfl⟩ := exec_reset_eq_next.1 h
    exact .inr (.inr (.inr (.inr ⟨.inr (.inl rfl), rfl⟩)))
  | powerOn =>
    obtain ⟨-, rfl⟩ := exec_powerOn_eq_next.1 h
    exact .inr (.inr (.inr (.inr ⟨.inr (.inr rfl), rfl⟩)))

/-- Transmitting is entered by the end of the turnaround, which emits the first byte of the response (R122, R178). -/
theorem exec_enters_transmitting {i : Instr} (h : exec i s = .next t) (hs : s.state ≠ .transmitting)
    (ht : t.state = .transmitting) : emittedBy s t = [s.txbuf.read 0] := by
  have htrans := Proofs.Framer.stateTransitions i s t h
  simp only [ht, hs.symm, reduceCtorEq, false_and, false_or, true_and] at htrans
  obtain ⟨rfl, hstart, hen, hle⟩ := htrans
  rw [exec_tick_of_le (legal_of_exec h) hen hle, State.expire_of_starting (s := s.timerCount) hstart] at h
  cases h
  exact emittedBy_of_outputs_append (s := s) (o := .txByte (s.txbuf.read 0)) rfl

/-! ### The transport beside it -/

variable {a b : Transport}

/-- A transport that has just been given a byte owes its TX_READY and the TX_COMPLETE (R217). -/
theorem System.inStep_of_sent (t : State) (b : Transport) (byte : Byte) :
    ({ block := t, transport := b.send [byte] } : System).inStep := fun _ => by simp

/-- In step, a TX_COMPLETE that the transport can deliver comes after the last byte (R121, R217). -/
theorem System.inStep.txcur_eq_txlen (hin : ({ block := s, transport := a } : System).inStep)
    (htx : s.state = .transmitting) (hmove : a.deliver .txComplete = some b) : s.txcur = s.txlen := by
  obtain ⟨-, hanswered, -⟩ := Transport.deliver_txComplete.1 hmove
  exact (hin htx).2 hanswered

/-- The system stays in step over an instruction for which the transport has the move (R217). -/
theorem System.inStep.exec {i : Instr} (hin : ({ block := s, transport := a } : System).inStep) (hs : s.Inv)
    (hmove : a.deliver i = some b) (h : exec i s = .next t) :
    ({ block := t, transport := b.send (emittedBy s t) } : System).inStep := by
  by_cases htx : s.state = .transmitting
  · obtain ⟨howed, hdone⟩ := hin htx
    obtain ⟨hready, hcomplete⟩ := Transport.deliver_owed hmove
    obtain ⟨hi, hi', hstands⟩ | ⟨rfl, rfl⟩ | ⟨rfl, hcur, rfl⟩ | ⟨rfl, hearly⟩ | ⟨-, hidle⟩ :=
      exec_transmitting_cases hs htx h
    · rw [hstands.silent, Transport.send_nil]
      refine fun _ => ⟨(hcomplete hi').trans howed, fun hanswered => ?_⟩
      exact hstands.txcur.trans ((hdone ((hready hi).symm.trans hanswered)).trans hstands.txlen.symm)
    · rw [emittedBy_of_outputs_append (o := .txByte (s.txbuf.read s.txcur.toNat)) rfl]
      exact System.inStep_of_sent _ b _
    · rw [emittedBy_of_outputs_eq rfl, Transport.send_nil]
      exact fun _ => ⟨(hcomplete nofun).trans howed, fun _ => hcur⟩
    · exact absurd (hin.txcur_eq_txlen htx hmove) hearly
    · exact fun ht => nomatch hidle.symm.trans ht
  · intro ht
    rw [exec_enters_transmitting h htx ht]
    exact System.inStep_of_sent t b _ ht

/-- The system stays in step over a step of the block that the transport has the move for (R217). -/
theorem System.inStep.step {x y : System} (hin : x.inStep) (hs : x.block.Inv) (h : x.step = some y) : y.inStep := by
  obtain ⟨b, t, hmove, hstep, rfl⟩ := System.step_eq_some.1 h
  obtain ⟨i, u, hsel, hexec⟩ | ⟨hsel, -⟩ := step_cases hstep
  · obtain ⟨rest, rfl⟩ := select_state.1 i u hsel
    rw [hsel] at hmove
    exact System.inStep.exec (s := { x.block with input := rest }) hin (hs.withInput rest) hmove hexec
  · obtain ⟨rest, rfl⟩ := select_state.2 t hsel
    rw [hsel] at hmove
    cases hmove
    rw [emittedBy_of_outputs_eq (s := x.block) (t := { x.block with input := rest }) rfl, Transport.send_nil]
    exact hin

end Sys2Proof.Machine
end

section
/-! PROOFS. The exceptional conditions of the block: the timeout that races the last byte of a frame, what a step is refused
for, and the response beside a transport that keeps its duty (60_exceptions.md). -/

namespace Sys2Proof.Proofs.Exceptions

open Sys2Proof.Machine

/-- Settles O25: after the TICK the byte is the first of a new frame, and after the byte the timer is disarmed. -/
theorem lastByteRacesTheExpiringTick : Obligations.LastByteRacesTheExpiringTick := by
  intro s b t u hs hr hlast hcap hdue htick hbyte
  have hin := hs.incoming (.inr (.inl hr))
  rw [exec_tick_of_le hs.legal hin.tmrEn hdue.le, State.expire_of_receive (s := s.timerCount) (.inr (.inl hr))] at htick
  rw [exec_rxByte_of_receiving hs.legal hr] at hbyte
  cases htick
  cases hbyte
  obtain ⟨hstate, hcur, hen, hcount, htarget⟩ := rxIdle_first (s := s.timerCount.frameReset) rfl b
  obtain ⟨hprocessing, hoff⟩ := rxReceiving_last hcap hlast b
  exact ⟨⟨_, exec_rxByte_of_idle hs.legal.frameReset rfl b, hstate, hcur, hen, hcount, htarget⟩, hprocessing, hoff,
    exec_tick_of_disarmed (hs.legal.rxReceiving b) hoff⟩

/-- Settles O53, by what is selected: PROCESS finds a complete frame, and a word's event is refused only for its index. -/
theorem onlyBadInputIsRefused : Obligations.OnlyBadInputIsRefused := by
  intro s hs
  cases hsel : select s with
  | run i u =>
    obtain ⟨rest, rfl⟩ := select_state.1 i u hsel
    rw [step_of_run hsel]
    by_cases hprocess : i = .process
    · subst hprocess
      have hp := select_process_state hsel
      exact .inl (exec_process_answers (hs.withInput rest) hp)
    by_cases hpower : i = .powerOn
    · subst hpower
      exact .inl ⟨_, exec_powerOn_eq_next.2 ⟨hs.legal, rfl⟩⟩
    obtain ⟨turn, later, w, hin, hw, hd⟩ := select_run_word hsel hprocess hpower
    obtain hanswer | ⟨k, hk, hi, hrefused⟩ := exec_event_answers (s := { s with input := rest }) hs.legal hd
    · exact .inl hanswer
    · refine .inr (.inr ⟨turn, later, w, k, hin, hw, hk, ?_, hrefused⟩)
      rw [hd]
      simpa using hi
  | wait u =>
    obtain ⟨rest, rfl⟩ := select_state.2 u hsel
    exact .inl ⟨_, step_of_wait hs.legal hsel⟩
  | badEvent =>
    obtain ⟨turn, rest, w, r, hin, hw, hd⟩ := select_badEvent_word hsel
    exact .inr (.inl ⟨turn, rest, w, r, hin, hw, hd, step_of_badEvent hs.legal hsel⟩)

/-- Settles O60: the system takes the steps that the duty allows and stays in step over each, and in step the transport owes
TX_READY or TX_COMPLETE. -/
theorem transportStaysInStep : Obligations.TransportStaysInStep := by
  intro x hs hin
  refine ⟨fun s hduty hstep => ?_, fun hduty => ?_, fun y => hin.step hs, fun htx => ⟨?_, fun hmove => ?_, ?_⟩⟩
  · obtain ⟨t, hmove⟩ := Option.isSome_iff_exists.1 hduty
    exact ⟨_, System.step_eq_some.2 ⟨t, s, hmove, hstep, rfl⟩⟩
  · refine Option.eq_none_iff_forall_ne_some.2 fun y hy => hduty ?_
    obtain ⟨t, -, hmove, -⟩ := System.step_eq_some.1 hy
    exact Option.isSome_iff_exists.2 ⟨t, hmove⟩
  · by_cases hanswered : x.transport.readyOwed = 0
    · exact .inr (Option.isSome_iff_exists.2 ⟨_, Transport.deliver_txComplete.2 ⟨(hin htx).1, hanswered, rfl⟩⟩)
    · exact .inl (Option.isSome_iff_exists.2 ⟨_, Transport.deliver_txReady.2 ⟨hanswered, rfl⟩⟩)
  · obtain ⟨t, hmove⟩ := Option.isSome_iff_exists.1 hmove
    exact ⟨_, exec_txComplete_of_done hs.legal ⟨htx, hin.txcur_eq_txlen htx hmove⟩, x.block.frameReset_isFrameResetOf⟩
  · intro i t h hcomplete hreset hpower
    have hline := hs.line.2 htx
    obtain ⟨-, -, hstands⟩ | ⟨-, rfl⟩ | ⟨-, -, rfl⟩ | ⟨hi, -⟩ | ⟨hi, -⟩ := exec_transmitting_cases hs htx h
    · exact ⟨hstands.state.trans htx, hstands.lineTx.trans hline⟩
    · exact ⟨htx, hline⟩
    · exact ⟨htx, hline⟩
    · exact absurd hi hcomplete
    · exact absurd hi (by simp [hcomplete, hreset, hpower])

end Sys2Proof.Proofs.Exceptions
end

section
/-! SUPPORT. What frame_reset does to a state it has reset, and the outputs it leaves (R32, R231, R234). -/

namespace Sys2Proof.Machine

variable {s : State}

/-- frame_reset writes constants, so a second one writes what is there (R234). -/
@[simp] theorem State.frameReset_frameReset : s.frameReset.frameReset = s.frameReset := rfl

/-- RESET of a reset state answers that state (R232, R234). -/
theorem State.Legal.exec_reset_frameReset (hl : s.Legal) : exec .reset s.frameReset = .next s.frameReset :=
  exec_reset_eq_next.2 ⟨hl.frameReset, State.frameReset_frameReset⟩

/-- STATE_OUT exports Idle (R32). -/
@[simp] theorem State.frameReset_stateOut : s.frameReset.stateOut = 0 := rfl

/-- No frame has begun: the block is ready for an address change (R32). -/
@[simp] theorem State.frameReset_quiet : s.frameReset.quiet = true := rfl

end Sys2Proof.Machine
end

section
/-! PROOFS. RESET and POWER_ON (70_reset_and_hazards.md). -/

namespace Sys2Proof.Proofs.Reset

open Sys2Proof.Machine

/-- Settles O26: the guard is all that RESET asks, and what it answers is the frame reset. -/
theorem resetFromAnyState : Obligations.ResetFromAnyState := fun s hl =>
  ⟨s.frameReset, exec_reset_eq_next.2 ⟨hl, rfl⟩, s.frameReset_isFrameResetOf⟩

/-- Settles O27: both answers are frame resets, whose values do not depend on the state. -/
theorem resetIsIdempotent : Obligations.ResetIsIdempotent := by
  intro s q t u hs hq
  obtain ⟨hl, rfl⟩ := exec_reset_eq_next.1 hs
  obtain ⟨-, rfl⟩ := exec_reset_eq_next.1 hq
  refine ⟨?_, hl.exec_reset_frameReset⟩
  simp

/-- Settles O29: POWER_ON is the frame reset of a state with the initial registers and address, and buffers of free bytes. -/
theorem powerOnLoadsInitialValues : Obligations.PowerOnLoadsInitialValues := by
  intro s hl
  refine ⟨_, exec_powerOn_eq_next.2 ⟨hl, rfl⟩, ?_⟩
  simp [powerOnBuffer_wf]

end Sys2Proof.Proofs.Reset
end
